-- ==== Sys2Proof/Config.lean ====
section
/-! DEFINITION. What the spec fixes for every VXEdDSA CORE (its numeric constants and sizes), the platform parameter
`core_base`, and the one free value of the model: what the PC register reads as while the engine runs. -/

namespace Sys2Proof.Config

/-- The field prime p = 2^255 − 19 (00_scope R7). -/
def p : Nat := 2 ^ 255 - 19

/-- p is positive, so that residues modulo p exist. -/
theorem p_pos : 0 < p := by decide

/-- The group order ℓ = 2^252 + 27742317777372353535851937790883648493 (00_scope R8). -/
def ell : Nat := 2 ^ 252 + 27742317777372353535851937790883648493

/-- The coefficient A_M of the Montgomery curve v² = u³ + 486662·u² + u (00_scope R9). -/
def montA : Nat := 486662

/-- The coefficient d = −121665/121666 mod p of the Edwards curve E (00_scope R10; UNVERIFIED: the spec's own
general-knowledge item G1, log entry 14). -/
def curveD : Nat := 37095705934669439343138083508754565189542113879843219016388785533085940283555

/-- The x coordinate of the base point B, the even root (00_scope R12; the spec's general-knowledge item G3: log entry 14). -/
def baseX : Nat := 15112221349535400772501151409588531511454012693041857206046113283949847762202

/-- The y coordinate 4/5 of the base point B (00_scope R12; the spec's general-knowledge item G3: log entry 14). -/
def baseY : Nat := 46316835694926478169428394003475163141307993866256225615783033603165251855960

/-- SQRTM1 = 2^((p−1)/4) mod p, a square root of −1 (00_scope R13). -/
def sqrtM1 : Nat := 19681161376707505956807079304988542015446066515923890162744021073123829784752

/-- IMEM holds 4096 bytes (20_memory R60). -/
def imemBytes : Nat := 4096

/-- DMEM holds 8192 bytes (20_memory R61). -/
def dmemBytes : Nat := 8192

/-- A DMEM slot is 32 bytes (20_memory R61). -/
def slotBytes : Nat := 32

/-- The host port's window is 0x4000 bytes (20_memory R63). -/
def windowBytes : Nat := 0x4000

/-- The constant of the ID register (10_state R33). -/
def idValue : BitVec 32 := 0x25519007#32

/-- Which 0x4000-byte window of the platform's address space the CORE occupies: a parameter the spec leaves open
(00_scope R6, 20_memory R63, decision D10). -/
opaque coreWindow : Nat

/-- `core_base`, the platform byte address of the host window, a multiple of 0x4000 (20_memory R63). -/
def coreBase : Nat := windowBytes * coreWindow

/-- FREE VALUE. What bits 12:0 of the PC register read as while STATUS.BUSY is 1: "any value in 0..4096 (a draw)"
(10_state R31, decision D43). The argument is the number of draws made before; nothing constrains the value but its
bound (log entry 6). -/
opaque busyPc : Nat → Fin 4097

end Sys2Proof.Config
end

