-- ==== Sys2Proof/Word.lean ====
section
/-! DEFINITION. The value types of the machine: bytes, command and bus words, field elements, scalars and affine points. -/

namespace Sys2Proof

/-- One byte of IMEM or DMEM. -/
abbrev Byte := BitVec 8

/-- A 32-bit command word or host bus word (00_scope R16). -/
abbrev Word := BitVec 32

/-- A field element: a residue in [0, p), never a non-canonical value (10_state R20). -/
abbrev Fe := Fin Config.p

/-- A scalar register's value: an unsigned 256-bit integer, not kept reduced modulo ℓ (10_state R21). -/
abbrev Scalar := BitVec 256

/-- The field element congruent to n modulo p. -/
def Fe.ofNat (n : Nat) : Fe := ⟨n % Config.p, Nat.mod_lt n Config.p_pos⟩

/-- An affine pair of field values (10_state R22). That it lies on the curve E is an invariant of the machine, not part
of the type (log entry 12). -/
structure Point where
  /-- The x coordinate. -/
  x : Fe
  /-- The y coordinate. -/
  y : Fe
deriving DecidableEq, Repr

end Sys2Proof
end

