-- ==== Sys2Proof/Syntax.lean ====
section
/-! DEFINITION. VXC-1's commands as terms: one constructor per row of spec/opcode_table.json, operands in the order of
the assembler syntax (30_encoding R108). Register indices and slots are bounded by their type, because every value of
their fields is valid (R93); immediates are plain numbers whose range WellFormed checks, as the assembler does. -/

namespace Sys2Proof

/-- Index of a field register F0 to F15 (10_state R20). -/
abbrev FReg := Fin 16

/-- Index of a scalar register S0 to S15 (10_state R21). -/
abbrev SReg := Fin 16

/-- Index of a point register P0 to P15 (10_state R22). -/
abbrev PReg := Fin 16

/-- Index of a condition register C0 to C15 (10_state R23). -/
abbrev CReg := Fin 16

/-- Number of a 32-byte DMEM slot, 0 to 255 (20_memory R61). -/
abbrev Slot := Fin 256

/-- The 58 commands of VXC-1 (30_encoding R95). A register argument is named by the encoding field that holds it. -/
inductive Instr where
  /-- `NOP` (40_control R123). -/
  | nop
  /-- `HALT` (40_control R124). -/
  | halt
  /-- `CLRALL` (40_control R125). -/
  | clrall
  /-- `CSET ck, imm` (40_control R126). -/
  | cset (k : CReg) (imm : Nat)
  /-- `CCPY ck, ca` (40_control R127). -/
  | ccpy (k : CReg) (a : CReg)
  /-- `CNOT ck, ca` (40_control R128). -/
  | cnot (k : CReg) (a : CReg)
  /-- `CAND ck, ca, cb` (40_control R129). -/
  | cand (k : CReg) (a : CReg) (b : CReg)
  /-- `COR ck, ca, cb` (40_control R130). -/
  | cor (k : CReg) (a : CReg) (b : CReg)
  /-- `CXOR ck, ca, cb` (40_control R131). -/
  | cxor (k : CReg) (a : CReg) (b : CReg)
  /-- `FE_MOV fd, fa` (41_field R143). -/
  | feMov (d : FReg) (a : FReg)
  /-- `FE_LDI fd, imm20` (41_field R144). -/
  | feLdi (d : FReg) (imm : Nat)
  /-- `FE_ADD fd, fa, fb` (41_field R145). -/
  | feAdd (d : FReg) (a : FReg) (b : FReg)
  /-- `FE_SUB fd, fa, fb` (41_field R146). -/
  | feSub (d : FReg) (a : FReg) (b : FReg)
  /-- `FE_NEG fd, fa` (41_field R147). -/
  | feNeg (d : FReg) (a : FReg)
  /-- `FE_MUL fd, fa, fb` (41_field R148). -/
  | feMul (d : FReg) (a : FReg) (b : FReg)
  /-- `FE_SQ fd, fa` (41_field R149). -/
  | feSq (d : FReg) (a : FReg)
  /-- `FE_SQ2 fd, fa` (41_field R150). -/
  | feSq2 (d : FReg) (a : FReg)
  /-- `FE_INV fd, fa` (41_field R151). -/
  | feInv (d : FReg) (a : FReg)
  /-- `FE_POW22523 fd, fa` (41_field R152). -/
  | fePow22523 (d : FReg) (a : FReg)
  /-- `FE_SQRTR fd, ck, fa, fb` (41_field R154). -/
  | feSqrtr (d : FReg) (k : CReg) (a : FReg) (b : FReg)
  /-- `FE_ISNEG ck, fa` (41_field R156). -/
  | feIsneg (k : CReg) (a : FReg)
  /-- `FE_ISZERO ck, fa` (41_field R157). -/
  | feIszero (k : CReg) (a : FReg)
  /-- `FE_CMOV fd, fa, ck` (41_field R158). -/
  | feCmov (d : FReg) (a : FReg) (k : CReg)
  /-- `FE_CSWAP fd, fa, ck` (41_field R159). -/
  | feCswap (d : FReg) (a : FReg) (k : CReg)
  /-- `FE_LD fd, [slot]` (41_field R141). -/
  | feLd (d : FReg) (slot : Slot)
  /-- `FE_ST [slot], fd` (41_field R142). -/
  | feSt (slot : Slot) (d : FReg)
  /-- `SC_LD sd, [slot]` (43_scalar R231). -/
  | scLd (d : SReg) (slot : Slot)
  /-- `SC_ST [slot], sd` (43_scalar R232). -/
  | scSt (slot : Slot) (d : SReg)
  /-- `PT_DEC pd, ck, [slot]` (42_group R200). -/
  | ptDec (d : PReg) (k : CReg) (slot : Slot)
  /-- `PT_ENC [slot], pd` (42_group R201). -/
  | ptEnc (slot : Slot) (d : PReg)
  /-- `C_LD [slot]` (40_control R132). -/
  | cLd (slot : Slot)
  /-- `C_ST [slot]` (40_control R133). -/
  | cSt (slot : Slot)
  /-- `SC_MOV sd, sa` (43_scalar R233). -/
  | scMov (d : SReg) (a : SReg)
  /-- `SC_LDI sd, imm20` (43_scalar R234). -/
  | scLdi (d : SReg) (imm : Nat)
  /-- `SC_REDUCE sd, sa, sb` (43_scalar R235). -/
  | scReduce (d : SReg) (a : SReg) (b : SReg)
  /-- `SC_MULADD sd, sa, sb, sc` (43_scalar R237). -/
  | scMuladd (d : SReg) (a : SReg) (b : SReg) (c : SReg)
  /-- `SC_CLAMP sd, sa` (43_scalar R236). -/
  | scClamp (d : SReg) (a : SReg)
  /-- `SC_CMOV sd, sa, ck` (43_scalar R238). -/
  | scCmov (d : SReg) (a : SReg) (k : CReg)
  /-- `SC_ISCANON ck, sa` (43_scalar R239). -/
  | scIscanon (k : CReg) (a : SReg)
  /-- `PT_MOV pd, pa` (42_group R188). -/
  | ptMov (d : PReg) (a : PReg)
  /-- `PT_ID pd` (42_group R189). -/
  | ptId (d : PReg)
  /-- `PT_BASE pd` (42_group R190). -/
  | ptBase (d : PReg)
  /-- `PT_ADD pd, pa, pb` (42_group R191). -/
  | ptAdd (d : PReg) (a : PReg) (b : PReg)
  /-- `PT_DBL pd, pa` (42_group R192). -/
  | ptDbl (d : PReg) (a : PReg)
  /-- `PT_NEG pd, pa` (42_group R193). -/
  | ptNeg (d : PReg) (a : PReg)
  /-- `PT_MUL8 pd, pa` (42_group R197). -/
  | ptMul8 (d : PReg) (a : PReg)
  /-- `PT_CMOV pd, pa, ck` (42_group R198). -/
  | ptCmov (d : PReg) (a : PReg) (k : CReg)
  /-- `PT_ISID ck, pa` (42_group R199). -/
  | ptIsid (k : CReg) (a : PReg)
  /-- `PT_SMULB pd, sb` (42_group R194). -/
  | ptSmulb (d : PReg) (b : SReg)
  /-- `PT_SMUL pd, pa, sb` (42_group R195). -/
  | ptSmul (d : PReg) (a : PReg) (b : SReg)
  /-- `PT_DSMUL pd, pa, sb, sc` (42_group R196). -/
  | ptDsmul (d : PReg) (a : PReg) (b : SReg) (c : SReg)
  /-- `PT_LDAFF pd, ck, fa, fb` (42_group R202). -/
  | ptLdaff (d : PReg) (k : CReg) (a : FReg) (b : FReg)
  /-- `PT_LDPROJ pd, ck, fa, fb, fc` (42_group R203). -/
  | ptLdproj (d : PReg) (k : CReg) (a : FReg) (b : FReg) (c : FReg)
  /-- `PT_LDEXT pd, ck, fa, fb, fc, fe` (42_group R204). -/
  | ptLdext (d : PReg) (k : CReg) (a : FReg) (b : FReg) (c : FReg) (e : FReg)
  /-- `PT_STAFF fd, fa, pb` (42_group R205). -/
  | ptStaff (d : FReg) (a : FReg) (b : PReg)
  /-- `H2P_ELL2 fd, fa` (44_hash_to_point R252). -/
  | h2pEll2 (d : FReg) (a : FReg)
  /-- `H2P_M2E pd, ck, fa, cb` (44_hash_to_point R253). -/
  | h2pM2e (d : PReg) (k : CReg) (a : FReg) (b : CReg)
  /-- `H2P pd, fa, cb` (44_hash_to_point R254). -/
  | h2p (d : PReg) (a : FReg) (b : CReg)
deriving DecidableEq, Repr

end Sys2Proof
end

