-- ==== Sys2Proof/WellFormed.lean ====
section
/-! DEFINITION. Which terms of Instr are commands: the two immediate ranges the assembler refuses to leave (30_encoding
R108). Everything else about an operand is a bound of its type. -/

namespace Sys2Proof

/-- An imm20 operand is 0 to 1048575 (30_encoding R93, R108). -/
def imm20InRange (imm : Nat) : Bool := decide (imm < 2 ^ 20)

/-- CSET's immediate is one bit (30_encoding R93, R108). -/
def bitInRange (imm : Nat) : Bool := decide (imm < 2)

/-- The term stands for a command word: its immediate, if it has one, is in range. -/
def Instr.wellFormed : Instr → Bool
  | .nop => true
  | .halt => true
  | .clrall => true
  | .cset _ imm => bitInRange imm
  | .ccpy _ _ => true
  | .cnot _ _ => true
  | .cand _ _ _ => true
  | .cor _ _ _ => true
  | .cxor _ _ _ => true
  | .feMov _ _ => true
  | .feLdi _ imm => imm20InRange imm
  | .feAdd _ _ _ => true
  | .feSub _ _ _ => true
  | .feNeg _ _ => true
  | .feMul _ _ _ => true
  | .feSq _ _ => true
  | .feSq2 _ _ => true
  | .feInv _ _ => true
  | .fePow22523 _ _ => true
  | .feSqrtr _ _ _ _ => true
  | .feIsneg _ _ => true
  | .feIszero _ _ => true
  | .feCmov _ _ _ => true
  | .feCswap _ _ _ => true
  | .feLd _ _ => true
  | .feSt _ _ => true
  | .scLd _ _ => true
  | .scSt _ _ => true
  | .ptDec _ _ _ => true
  | .ptEnc _ _ => true
  | .cLd _ => true
  | .cSt _ => true
  | .scMov _ _ => true
  | .scLdi _ imm => imm20InRange imm
  | .scReduce _ _ _ => true
  | .scMuladd _ _ _ _ => true
  | .scClamp _ _ => true
  | .scCmov _ _ _ => true
  | .scIscanon _ _ => true
  | .ptMov _ _ => true
  | .ptId _ => true
  | .ptBase _ => true
  | .ptAdd _ _ _ => true
  | .ptDbl _ _ => true
  | .ptNeg _ _ => true
  | .ptMul8 _ _ => true
  | .ptCmov _ _ _ => true
  | .ptIsid _ _ => true
  | .ptSmulb _ _ => true
  | .ptSmul _ _ _ => true
  | .ptDsmul _ _ _ _ => true
  | .ptLdaff _ _ _ _ => true
  | .ptLdproj _ _ _ _ _ => true
  | .ptLdext _ _ _ _ _ _ => true
  | .ptStaff _ _ _ => true
  | .h2pEll2 _ _ => true
  | .h2pM2e _ _ _ _ => true
  | .h2p _ _ _ => true

end Sys2Proof
end

