-- ==== Sys2Proof/Decode.lean ====
section
/-! DEFINITION. Command words: bytes to words, the opcode map as a table of mask, match and operand fields, the decoder
that rejects by name, and the encoder written from the same formats (30_encoding R90 to R98). -/

namespace Sys2Proof

/-- `fromLE`: the unsigned integer of a byte string, byte 0 least significant (00_scope R15). -/
def fromLE : List Byte → Nat
  | [] => 0
  | b :: bs => b.toNat + 256 * fromLE bs

/-- `LE_n`: the n bytes of v, least significant first (00_scope R15). -/
def toLE : Nat → Nat → List Byte
  | 0, _ => []
  | n + 1, v => BitVec.ofNat 8 v :: toLE n (v / 256)

/-- Field op, bits 7:0 (30_encoding R91). -/
def opOf (w : Word) : BitVec 8 := w.extractLsb' 0 8

/-- Field d, bits 11:8 (30_encoding R91). -/
def fieldD (w : Word) : Fin 16 := (w.extractLsb' 8 4).toFin

/-- Field a, bits 15:12 (30_encoding R91). -/
def fieldA (w : Word) : Fin 16 := (w.extractLsb' 12 4).toFin

/-- Field b, bits 19:16 (30_encoding R91). -/
def fieldB (w : Word) : Fin 16 := (w.extractLsb' 16 4).toFin

/-- Field c, bits 23:20 (30_encoding R91). -/
def fieldC (w : Word) : Fin 16 := (w.extractLsb' 20 4).toFin

/-- Field e, bits 27:24 (30_encoding R91). -/
def fieldE (w : Word) : Fin 16 := (w.extractLsb' 24 4).toFin

/-- Field k, bits 31:28 (30_encoding R91). -/
def fieldK (w : Word) : Fin 16 := (w.extractLsb' 28 4).toFin

/-- Field slot, bits 23:16 (30_encoding R91). -/
def fieldSlot (w : Word) : Fin 256 := (w.extractLsb' 16 8).toFin

/-- Field imm20, bits 31:12, zero-extended (30_encoding R91, R93). -/
def fieldImm20 (w : Word) : Nat := (w.extractLsb' 12 20).toNat

/-- CSET's immediate, the single bit 12 (30_encoding R93). -/
def fieldBit (w : Word) : Nat := (w.extractLsb' 12 1).toNat

/-- One row of the opcode map: the bits fixed for the opcode, their values, and the command the other bits give. -/
structure Row where
  /-- The row's mnemonic in spec/opcode_table.json. -/
  mnemonic : String
  /-- A 1 in every fixed bit. -/
  mask : Word
  /-- The fixed bits' values. -/
  fixed : Word
  /-- The command with its operand fields. -/
  build : Word → Instr

/-- Engine control and conditions, opcodes 0x00 to 0x0F (30_encoding R95). -/
def controlRows : List Row := [
  ⟨"NOP", 0xffffffff#32, 0x00000000#32, fun _ => .nop⟩,
  ⟨"HALT", 0xffffffff#32, 0x00000001#32, fun _ => .halt⟩,
  ⟨"CLRALL", 0xffffffff#32, 0x00000002#32, fun _ => .clrall⟩,
  ⟨"CSET", 0x0fffefff#32, 0x00000008#32, fun w => .cset (fieldK w) (fieldBit w)⟩,
  ⟨"CCPY", 0x0fff0fff#32, 0x00000009#32, fun w => .ccpy (fieldK w) (fieldA w)⟩,
  ⟨"CNOT", 0x0fff0fff#32, 0x0000000a#32, fun w => .cnot (fieldK w) (fieldA w)⟩,
  ⟨"CAND", 0x0ff00fff#32, 0x0000000b#32, fun w => .cand (fieldK w) (fieldA w) (fieldB w)⟩,
  ⟨"COR", 0x0ff00fff#32, 0x0000000c#32, fun w => .cor (fieldK w) (fieldA w) (fieldB w)⟩,
  ⟨"CXOR", 0x0ff00fff#32, 0x0000000d#32, fun w => .cxor (fieldK w) (fieldA w) (fieldB w)⟩]

/-- Field arithmetic, opcodes 0x10 to 0x1F (30_encoding R95). -/
def fieldRows : List Row := [
  ⟨"FE_MOV", 0xffff00ff#32, 0x00000010#32, fun w => .feMov (fieldD w) (fieldA w)⟩,
  ⟨"FE_LDI", 0x000000ff#32, 0x00000011#32, fun w => .feLdi (fieldD w) (fieldImm20 w)⟩,
  ⟨"FE_ADD", 0xfff000ff#32, 0x00000012#32, fun w => .feAdd (fieldD w) (fieldA w) (fieldB w)⟩,
  ⟨"FE_SUB", 0xfff000ff#32, 0x00000013#32, fun w => .feSub (fieldD w) (fieldA w) (fieldB w)⟩,
  ⟨"FE_NEG", 0xffff00ff#32, 0x00000014#32, fun w => .feNeg (fieldD w) (fieldA w)⟩,
  ⟨"FE_MUL", 0xfff000ff#32, 0x00000015#32, fun w => .feMul (fieldD w) (fieldA w) (fieldB w)⟩,
  ⟨"FE_SQ", 0xffff00ff#32, 0x00000016#32, fun w => .feSq (fieldD w) (fieldA w)⟩,
  ⟨"FE_SQ2", 0xffff00ff#32, 0x00000017#32, fun w => .feSq2 (fieldD w) (fieldA w)⟩,
  ⟨"FE_INV", 0xffff00ff#32, 0x00000018#32, fun w => .feInv (fieldD w) (fieldA w)⟩,
  ⟨"FE_POW22523", 0xffff00ff#32, 0x00000019#32, fun w => .fePow22523 (fieldD w) (fieldA w)⟩,
  ⟨"FE_SQRTR", 0x0ff000ff#32, 0x0000001a#32, fun w => .feSqrtr (fieldD w) (fieldK w) (fieldA w) (fieldB w)⟩,
  ⟨"FE_ISNEG", 0x0fff0fff#32, 0x0000001b#32, fun w => .feIsneg (fieldK w) (fieldA w)⟩,
  ⟨"FE_ISZERO", 0x0fff0fff#32, 0x0000001c#32, fun w => .feIszero (fieldK w) (fieldA w)⟩,
  ⟨"FE_CMOV", 0x0fff00ff#32, 0x0000001d#32, fun w => .feCmov (fieldD w) (fieldA w) (fieldK w)⟩,
  ⟨"FE_CSWAP", 0x0fff00ff#32, 0x0000001e#32, fun w => .feCswap (fieldD w) (fieldA w) (fieldK w)⟩]

/-- Slot transfers, opcodes 0x20 to 0x27 (30_encoding R95). -/
def slotRows : List Row := [
  ⟨"FE_LD", 0xff00f0ff#32, 0x00000020#32, fun w => .feLd (fieldD w) (fieldSlot w)⟩,
  ⟨"FE_ST", 0xff00f0ff#32, 0x00000021#32, fun w => .feSt (fieldSlot w) (fieldD w)⟩,
  ⟨"SC_LD", 0xff00f0ff#32, 0x00000022#32, fun w => .scLd (fieldD w) (fieldSlot w)⟩,
  ⟨"SC_ST", 0xff00f0ff#32, 0x00000023#32, fun w => .scSt (fieldSlot w) (fieldD w)⟩,
  ⟨"PT_DEC", 0x0f00f0ff#32, 0x00000024#32, fun w => .ptDec (fieldD w) (fieldK w) (fieldSlot w)⟩,
  ⟨"PT_ENC", 0xff00f0ff#32, 0x00000025#32, fun w => .ptEnc (fieldSlot w) (fieldD w)⟩,
  ⟨"C_LD", 0xff00ffff#32, 0x00000026#32, fun w => .cLd (fieldSlot w)⟩,
  ⟨"C_ST", 0xff00ffff#32, 0x00000027#32, fun w => .cSt (fieldSlot w)⟩]

/-- Scalar arithmetic, opcodes 0x30 to 0x3F (30_encoding R95). -/
def scalarRows : List Row := [
  ⟨"SC_MOV", 0xffff00ff#32, 0x00000030#32, fun w => .scMov (fieldD w) (fieldA w)⟩,
  ⟨"SC_LDI", 0x000000ff#32, 0x00000031#32, fun w => .scLdi (fieldD w) (fieldImm20 w)⟩,
  ⟨"SC_REDUCE", 0xfff000ff#32, 0x00000032#32, fun w => .scReduce (fieldD w) (fieldA w) (fieldB w)⟩,
  ⟨"SC_MULADD", 0xff0000ff#32, 0x00000033#32, fun w => .scMuladd (fieldD w) (fieldA w) (fieldB w) (fieldC w)⟩,
  ⟨"SC_CLAMP", 0xffff00ff#32, 0x00000034#32, fun w => .scClamp (fieldD w) (fieldA w)⟩,
  ⟨"SC_CMOV", 0x0fff00ff#32, 0x00000035#32, fun w => .scCmov (fieldD w) (fieldA w) (fieldK w)⟩,
  ⟨"SC_ISCANON", 0x0fff0fff#32, 0x00000036#32, fun w => .scIscanon (fieldK w) (fieldA w)⟩]

/-- Group arithmetic, opcodes 0x40 to 0x4F (30_encoding R95). -/
def groupRows : List Row := [
  ⟨"PT_MOV", 0xffff00ff#32, 0x00000040#32, fun w => .ptMov (fieldD w) (fieldA w)⟩,
  ⟨"PT_ID", 0xfffff0ff#32, 0x00000041#32, fun w => .ptId (fieldD w)⟩,
  ⟨"PT_BASE", 0xfffff0ff#32, 0x00000042#32, fun w => .ptBase (fieldD w)⟩,
  ⟨"PT_ADD", 0xfff000ff#32, 0x00000043#32, fun w => .ptAdd (fieldD w) (fieldA w) (fieldB w)⟩,
  ⟨"PT_DBL", 0xffff00ff#32, 0x00000044#32, fun w => .ptDbl (fieldD w) (fieldA w)⟩,
  ⟨"PT_NEG", 0xffff00ff#32, 0x00000045#32, fun w => .ptNeg (fieldD w) (fieldA w)⟩,
  ⟨"PT_MUL8", 0xffff00ff#32, 0x00000046#32, fun w => .ptMul8 (fieldD w) (fieldA w)⟩,
  ⟨"PT_CMOV", 0x0fff00ff#32, 0x00000047#32, fun w => .ptCmov (fieldD w) (fieldA w) (fieldK w)⟩,
  ⟨"PT_ISID", 0x0fff0fff#32, 0x00000048#32, fun w => .ptIsid (fieldK w) (fieldA w)⟩,
  ⟨"PT_SMULB", 0xfff0f0ff#32, 0x00000049#32, fun w => .ptSmulb (fieldD w) (fieldB w)⟩,
  ⟨"PT_SMUL", 0xfff000ff#32, 0x0000004a#32, fun w => .ptSmul (fieldD w) (fieldA w) (fieldB w)⟩,
  ⟨"PT_DSMUL", 0xff0000ff#32, 0x0000004b#32, fun w => .ptDsmul (fieldD w) (fieldA w) (fieldB w) (fieldC w)⟩,
  ⟨"PT_LDAFF", 0x0ff000ff#32, 0x0000004c#32, fun w => .ptLdaff (fieldD w) (fieldK w) (fieldA w) (fieldB w)⟩,
  ⟨"PT_LDPROJ", 0x0f0000ff#32, 0x0000004d#32, fun w => .ptLdproj (fieldD w) (fieldK w) (fieldA w) (fieldB w) (fieldC w)⟩,
  ⟨"PT_LDEXT", 0x000000ff#32, 0x0000004e#32, fun w => .ptLdext (fieldD w) (fieldK w) (fieldA w) (fieldB w) (fieldC w) (fieldE w)⟩,
  ⟨"PT_STAFF", 0xfff000ff#32, 0x0000004f#32, fun w => .ptStaff (fieldD w) (fieldA w) (fieldB w)⟩]

/-- Hash-to-point, opcodes 0x50 to 0x5F (30_encoding R95). -/
def hashRows : List Row := [
  ⟨"H2P_ELL2", 0xffff00ff#32, 0x00000050#32, fun w => .h2pEll2 (fieldD w) (fieldA w)⟩,
  ⟨"H2P_M2E", 0x0ff000ff#32, 0x00000051#32, fun w => .h2pM2e (fieldD w) (fieldK w) (fieldA w) (fieldB w)⟩,
  ⟨"H2P", 0xfff000ff#32, 0x00000052#32, fun w => .h2p (fieldD w) (fieldA w) (fieldB w)⟩]

/-- The complete opcode map, 58 rows (30_encoding R95). -/
def opcodeTable : List Row := controlRows ++ fieldRows ++ slotRows ++ scalarRows ++ groupRows ++ hashRows

/-- What a command word is. -/
inductive Decoded where
  /-- A command of VXC-1. -/
  | instr (i : Instr)
  /-- Bits 7:0 are none of the 58 opcodes: the engine raises ILLEGAL_OPCODE (30_encoding R97 (a)). -/
  | illegalOpcode
  /-- A bit of a field that the opcode does not use is 1: the engine raises ILLEGAL_FIELD (30_encoding R97 (b)). -/
  | illegalField
deriving DecidableEq, Repr

/-- The row of the opcode map whose opcode is bits 7:0 of w. -/
def rowOf (w : Word) : Option Row := opcodeTable.find? fun r => opOf r.fixed == opOf w

/-- The decoder (30_encoding R94): total, and refusing by name. -/
def decode (w : Word) : Decoded :=
  match rowOf w with
  | none => .illegalOpcode
  | some r => if w &&& r.mask = r.fixed then .instr (r.build w) else .illegalField

/-- Decoding a byte string: the first four bytes are a little-endian command word (20_memory R62 (b)); the rest is
handed back, and fewer than four bytes hold no command. -/
def decodeBytes : List Byte → Option (Decoded × List Byte)
  | b0 :: b1 :: b2 :: b3 :: rest => some (decode (BitVec.ofNat 32 (fromLE [b0, b1, b2, b3])), rest)
  | _ => none

/-- The instruction the decoder reads from a table word of nbits bits, laid out as IMEM holds it (20_memory R62 (b));
none where the decoder refuses. -/
def decodeTableWord (nbits w : Nat) : Option Instr :=
  match decodeBytes (toLE 4 (w % 2 ^ nbits)) with
  | some (.instr i, _) => some i
  | _ => none

/-- A 4-bit register field. -/
def nib (r : Fin 16) : BitVec 4 := BitVec.ofFin r

/-- Format R (30_encoding R92): k, e, c, b, a, d, op from bit 31 down. -/
def packR (k e c b a d : BitVec 4) (op : BitVec 8) : Word := k ++ e ++ c ++ b ++ a ++ d ++ op

/-- Format M (30_encoding R92): k, 0000, slot, 0000, d, op from bit 31 down. -/
def packM (k : BitVec 4) (slot : BitVec 8) (d : BitVec 4) (op : BitVec 8) : Word :=
  k ++ (0#4 : BitVec 4) ++ slot ++ (0#4 : BitVec 4) ++ d ++ op

/-- Format I (30_encoding R92): imm20, d, op from bit 31 down. -/
def packI (imm : BitVec 20) (d : BitVec 4) (op : BitVec 8) : Word := imm ++ d ++ op

/-- Format N (30_encoding R92): bits 31:8 are 0. -/
def packN (op : BitVec 8) : Word := (0#24 : BitVec 24) ++ op

/-- The encoder: the command word of a well-formed instruction, from the formats of 30_encoding R92 and the fields of
R95. -/
def encode : Instr → Word
  | .nop => packN 0x00#8
  | .halt => packN 0x01#8
  | .clrall => packN 0x02#8
  | .cset k imm => packR (nib k) 0#4 0#4 0#4 (BitVec.ofNat 4 imm) 0#4 0x08#8
  | .ccpy k a => packR (nib k) 0#4 0#4 0#4 (nib a) 0#4 0x09#8
  | .cnot k a => packR (nib k) 0#4 0#4 0#4 (nib a) 0#4 0x0a#8
  | .cand k a b => packR (nib k) 0#4 0#4 (nib b) (nib a) 0#4 0x0b#8
  | .cor k a b => packR (nib k) 0#4 0#4 (nib b) (nib a) 0#4 0x0c#8
  | .cxor k a b => packR (nib k) 0#4 0#4 (nib b) (nib a) 0#4 0x0d#8
  | .feMov d a => packR 0#4 0#4 0#4 0#4 (nib a) (nib d) 0x10#8
  | .feLdi d imm => packI (BitVec.ofNat 20 imm) (nib d) 0x11#8
  | .feAdd d a b => packR 0#4 0#4 0#4 (nib b) (nib a) (nib d) 0x12#8
  | .feSub d a b => packR 0#4 0#4 0#4 (nib b) (nib a) (nib d) 0x13#8
  | .feNeg d a => packR 0#4 0#4 0#4 0#4 (nib a) (nib d) 0x14#8
  | .feMul d a b => packR 0#4 0#4 0#4 (nib b) (nib a) (nib d) 0x15#8
  | .feSq d a => packR 0#4 0#4 0#4 0#4 (nib a) (nib d) 0x16#8
  | .feSq2 d a => packR 0#4 0#4 0#4 0#4 (nib a) (nib d) 0x17#8
  | .feInv d a => packR 0#4 0#4 0#4 0#4 (nib a) (nib d) 0x18#8
  | .fePow22523 d a => packR 0#4 0#4 0#4 0#4 (nib a) (nib d) 0x19#8
  | .feSqrtr d k a b => packR (nib k) 0#4 0#4 (nib b) (nib a) (nib d) 0x1a#8
  | .feIsneg k a => packR (nib k) 0#4 0#4 0#4 (nib a) 0#4 0x1b#8
  | .feIszero k a => packR (nib k) 0#4 0#4 0#4 (nib a) 0#4 0x1c#8
  | .feCmov d a k => packR (nib k) 0#4 0#4 0#4 (nib a) (nib d) 0x1d#8
  | .feCswap d a k => packR (nib k) 0#4 0#4 0#4 (nib a) (nib d) 0x1e#8
  | .feLd d slot => packM 0#4 (BitVec.ofFin slot) (nib d) 0x20#8
  | .feSt slot d => packM 0#4 (BitVec.ofFin slot) (nib d) 0x21#8
  | .scLd d slot => packM 0#4 (BitVec.ofFin slot) (nib d) 0x22#8
  | .scSt slot d => packM 0#4 (BitVec.ofFin slot) (nib d) 0x23#8
  | .ptDec d k slot => packM (nib k) (BitVec.ofFin slot) (nib d) 0x24#8
  | .ptEnc slot d => packM 0#4 (BitVec.ofFin slot) (nib d) 0x25#8
  | .cLd slot => packM 0#4 (BitVec.ofFin slot) 0#4 0x26#8
  | .cSt slot => packM 0#4 (BitVec.ofFin slot) 0#4 0x27#8
  | .scMov d a => packR 0#4 0#4 0#4 0#4 (nib a) (nib d) 0x30#8
  | .scLdi d imm => packI (BitVec.ofNat 20 imm) (nib d) 0x31#8
  | .scReduce d a b => packR 0#4 0#4 0#4 (nib b) (nib a) (nib d) 0x32#8
  | .scMuladd d a b c => packR 0#4 0#4 (nib c) (nib b) (nib a) (nib d) 0x33#8
  | .scClamp d a => packR 0#4 0#4 0#4 0#4 (nib a) (nib d) 0x34#8
  | .scCmov d a k => packR (nib k) 0#4 0#4 0#4 (nib a) (nib d) 0x35#8
  | .scIscanon k a => packR (nib k) 0#4 0#4 0#4 (nib a) 0#4 0x36#8
  | .ptMov d a => packR 0#4 0#4 0#4 0#4 (nib a) (nib d) 0x40#8
  | .ptId d => packR 0#4 0#4 0#4 0#4 0#4 (nib d) 0x41#8
  | .ptBase d => packR 0#4 0#4 0#4 0#4 0#4 (nib d) 0x42#8
  | .ptAdd d a b => packR 0#4 0#4 0#4 (nib b) (nib a) (nib d) 0x43#8
  | .ptDbl d a => packR 0#4 0#4 0#4 0#4 (nib a) (nib d) 0x44#8
  | .ptNeg d a => packR 0#4 0#4 0#4 0#4 (nib a) (nib d) 0x45#8
  | .ptMul8 d a => packR 0#4 0#4 0#4 0#4 (nib a) (nib d) 0x46#8
  | .ptCmov d a k => packR (nib k) 0#4 0#4 0#4 (nib a) (nib d) 0x47#8
  | .ptIsid k a => packR (nib k) 0#4 0#4 0#4 (nib a) 0#4 0x48#8
  | .ptSmulb d b => packR 0#4 0#4 0#4 (nib b) 0#4 (nib d) 0x49#8
  | .ptSmul d a b => packR 0#4 0#4 0#4 (nib b) (nib a) (nib d) 0x4a#8
  | .ptDsmul d a b c => packR 0#4 0#4 (nib c) (nib b) (nib a) (nib d) 0x4b#8
  | .ptLdaff d k a b => packR (nib k) 0#4 0#4 (nib b) (nib a) (nib d) 0x4c#8
  | .ptLdproj d k a b c => packR (nib k) 0#4 (nib c) (nib b) (nib a) (nib d) 0x4d#8
  | .ptLdext d k a b c e => packR (nib k) (nib e) (nib c) (nib b) (nib a) (nib d) 0x4e#8
  | .ptStaff d a b => packR 0#4 0#4 0#4 (nib b) (nib a) (nib d) 0x4f#8
  | .h2pEll2 d a => packR 0#4 0#4 0#4 0#4 (nib a) (nib d) 0x50#8
  | .h2pM2e d k a b => packR (nib k) 0#4 0#4 (nib b) (nib a) (nib d) 0x51#8
  | .h2p d a b => packR 0#4 0#4 0#4 (nib b) (nib a) (nib d) 0x52#8

end Sys2Proof
end

