-- ==== Sys2Proof/Machine/State.lean ====
section
/-! DEFINITION. The machine's state as plain data, the events of its two agents, the ways a step can stop, and the state
after reset (10_state.md). -/

namespace Sys2Proof.Machine

/-- A memory: the bytes that are not 0, by rising address. An unlisted address reads as 0 (log entry 1). The read, the
write and the canonical form are in Machine/Ops.lean. -/
abbrev Memory := List Host.Cell

/-- The fault causes the engine records in FAULT_CAUSE (60_exceptions R270). -/
inductive FaultCause where
  /-- Code 0: no fault since reset or the last START. -/
  | none
  /-- Code 1: bits 7:0 of the fetched word are no opcode. -/
  | illegalOpcode
  /-- Code 2: a bit of a field the command does not use is 1. -/
  | illegalField
  /-- Code 3: pc = 4096 at a command boundary. -/
  | fetchRange
  /-- Code 4: a host ABORT was taken at a command boundary. -/
  | aborted
deriving DecidableEq, Repr

/-- One access of the HOST to the host port, at a byte offset of its window (20_memory R63, R64). -/
inductive HostAccess where
  /-- A read of `size` bytes. -/
  | read (size : Nat) (offset : BitVec 14)
  /-- A write of `size` bytes; `value` is what the data lines carry (only a 4-byte write can have an effect). -/
  | write (size : Nat) (offset : BitVec 14) (value : Word)
deriving DecidableEq, Repr

/-- One atomic event of the total order of 20_memory R72. -/
inductive Event where
  /-- The ENGINE takes its step (40_control R120). -/
  | engine
  /-- The HOST makes one access. -/
  | host (a : HostAccess)
  /-- The platform asserts the reset input (70_reset R300). -/
  | reset
deriving DecidableEq, Repr

/-- All state of the VXEdDSA CORE (10_state.md), and three fields of the model's own, named last. -/
structure State where
  /-- F0 to F15 (10_state R20). -/
  fReg : Vector Fe 16
  /-- S0 to S15 (10_state R21). -/
  sReg : Vector Scalar 16
  /-- P0 to P15 (10_state R22). -/
  pReg : Vector Point 16
  /-- C0 to C15 (10_state R23). -/
  cReg : Vector Bool 16
  /-- The program counter, an IMEM byte address 0 to 4096 (10_state R25). -/
  pc : BitVec 13
  /-- Command memory (20_memory R60). -/
  imem : Memory
  /-- Data memory (20_memory R61). -/
  dmem : Memory
  /-- The hidden bit abort_req (10_state R36). -/
  abortReq : Bool
  /-- CTRL.IE, bit 8 (10_state R28). -/
  ie : Bool
  /-- STATUS.BUSY, bit 0 (10_state R29). -/
  busy : Bool
  /-- STATUS.DONE, bit 1 (10_state R29). -/
  done : Bool
  /-- STATUS.FAULT, bit 2 (10_state R29). -/
  fault : Bool
  /-- STATUS.HERR, bit 3 (10_state R29). -/
  herr : Bool
  /-- START_PC, bits 11:2 (10_state R30). -/
  startPc : BitVec 10
  /-- FAULT_CAUSE (10_state R32). -/
  faultCause : FaultCause
  /-- FAULT_PC, bits 12:0 (10_state R32). -/
  faultPc : BitVec 13
  /-- FAULT_INSN (10_state R32). -/
  faultInsn : Word
  /-- MODEL'S OWN: the events still to come, next first; when there is none, the engine moves (log entry 2). -/
  schedule : List Event
  /-- MODEL'S OWN: what the last host read returned (log entry 5). -/
  readData : Word
  /-- MODEL'S OWN: the number of draws of the PC register's busy value made so far (log entry 6). -/
  draws : Nat
deriving DecidableEq, Repr

/-- The reasons a step stops for good. The engine's own faults (60_exceptions R270) are not among them: they are next
states with the fault record written. -/
inductive Fault where
  /-- Raised by the engine's fetch when pc is no command address of IMEM (above 4096, or no multiple of 4). No run
  reaches such a state (10_state R25), and the spec says nothing of it. Safe: the model stops (log entry 13). -/
  | noCommandAddress
deriving DecidableEq, Repr

/-- The reasons an instruction has no meaning. -/
inductive Refusal where
  /-- Raised by exec's arm of an instruction that has no meaning yet. Safe: nothing follows from it. No arm does so now. -/
  | notModelled (mnemonic : String)
deriving DecidableEq, Repr

/-- The neutral element O = (0, 1) (00_scope R11). -/
def neutral : Point := ⟨Fe.ofNat 0, Fe.ofNat 1⟩

/-- The machine after its first reset from power-on, with the contents that the memories happen to hold: the spec's
parameter `mem_init` (10_state R38, 70_reset R300). -/
def State.powerOn (imem dmem : Memory) : State where
  fReg := Vector.replicate 16 (Fe.ofNat 0)
  sReg := Vector.replicate 16 0#256
  pReg := Vector.replicate 16 neutral
  cReg := Vector.replicate 16 false
  pc := 0#13
  imem := imem
  dmem := dmem
  abortReq := false
  ie := false
  busy := false
  done := false
  fault := false
  herr := false
  startPc := 0#10
  faultCause := .none
  faultPc := 0#13
  faultInsn := 0#32
  schedule := []
  readData := 0#32
  draws := 0

/-- The machine right after reset (10_state R38), with memories that list nothing (log entry 1). -/
def State.reset : State := State.powerOn [] []

end Sys2Proof.Machine
end

