-- ==== Sys2Proof/Machine/FieldArith.lean ====
section
/-! DEFINITION. Arithmetic in GF(p): the primitives of 00_scope R15 and the square root of a ratio (41_field R153). -/

namespace Sys2Proof.Machine

/-- The field element 0. -/
def feZero : Fe := Fe.ofNat 0

/-- The field element 1. -/
def feOne : Fe := Fe.ofNat 1

/-- `addp(a, b) = (a + b) mod p` (00_scope R15). -/
def addp (a b : Fe) : Fe := Fe.ofNat (a.val + b.val)

/-- `negp(a) = (−a) mod p` (00_scope R15). -/
def negp (a : Fe) : Fe := Fe.ofNat (Config.p - a.val)

/-- `subp(a, b) = (a − b) mod p` (00_scope R15). -/
def subp (a b : Fe) : Fe := Fe.ofNat (a.val + (Config.p - b.val))

/-- `mulp(a, b) = (a·b) mod p` (00_scope R15). -/
def mulp (a b : Fe) : Fe := Fe.ofNat (a.val * b.val)

/-- b^e mod m for e below 16^k, four bits of the exponent at a time (log entry 11). -/
def powMod (m b : Nat) : Nat → Nat → Nat
  | 0, _ => 1 % m
  | k + 1, e => powMod m b k (e / 16) ^ 16 * b ^ (e % 16) % m

/-- `powp(a, e) = a^e mod p`, with a^0 = 1 (00_scope R15). -/
def powp (a : Fe) (e : Nat) : Fe := Fe.ofNat (powMod Config.p a.val (e.log2 / 4 + 1) e)

/-- `invp(a) = powp(a, p − 2)`, so that invp(0) = 0 (00_scope R15). -/
def invp (a : Fe) : Fe := powp a (Config.p - 2)

/-- `divp(a, b) = mulp(a, invp(b))` (00_scope R15). -/
def divp (a b : Fe) : Fe := mulp a (invp b)

/-- `is_square(a)`, by Euler's criterion: powp(a, (p − 1)/2) is 0 or 1 (00_scope R15; log entry 9). -/
def isSquare (a : Fe) : Bool := decide ((powp a ((Config.p - 1) / 2)).val < 2)

/-- `parity(a)`: a mod 2 as one bit (00_scope R15). -/
def parity (a : Fe) : Bool := a.val % 2 == 1

/-- The one of a and −a whose parity is the given bit; 0 stays 0. -/
def withParity (sign : Bool) (a : Fe) : Fe := if parity a = sign then a else negp a

/-- A square root of r, when r is a square: r^((p+3)/8), or that times SQRTM1, by which of the two squares back to r
(log entry 8). -/
def rootOf (r : Fe) : Fe :=
  let t := powp r ((Config.p + 3) / 8)
  if mulp t t = r then t else mulp t (Fe.ofNat Config.sqrtM1)

/-- `sqrt_ratio(num, den)`: the even root of num/den and whether there is one (41_field R153). -/
def sqrtRatio (num den : Fe) : Fe × Bool :=
  if den = feZero then (feZero, decide (num = feZero))
  else
    let r := divp num den
    if isSquare r then (withParity false (rootOf r), true) else (feZero, false)

/-- The informative two-candidate algorithm for `sqrt_ratio` (41_field R155). No command uses it: the spec says that it
agrees with R153, and an obligation states so. -/
def sqrtRatioTwoCandidates (v u : Fe) : Fe × Bool :=
  let u3 := mulp u (mulp u u)
  let u7 := mulp u (mulp u3 u3)
  let r := mulp (mulp v u3) (powp (mulp v u7) ((Config.p - 5) / 8))
  let chk := mulp u (mulp r r)
  if chk = v then (withParity false r, true)
  else if chk = negp v then (withParity false (mulp r (Fe.ofNat Config.sqrtM1)), true)
  else (feZero, false)

end Sys2Proof.Machine
end

