-- ==== Sys2Proof/Machine/CurveArith.lean ====
section
/-! DEFINITION. The Edwards curve E: membership, the group law, scalar multiples, point encoding and decoding
(42_group R181 to R187), and the loads of projective and extended coordinates (R202 to R204). -/

namespace Sys2Proof.Machine

/-- The curve coefficient d as a field element (00_scope R10). -/
def dCoeff : Fe := Fe.ofNat Config.curveD

/-- The base point B (00_scope R12). -/
def basePoint : Point := ⟨Fe.ofNat Config.baseX, Fe.ofNat Config.baseY⟩

/-- `on_curve(x, y)`: −x² + y² = 1 + d·x²·y² (42_group R183). -/
def onCurve (x y : Fe) : Bool :=
  let xx := mulp x x
  let yy := mulp y y
  decide (addp (negp xx) yy = addp feOne (mulp dCoeff (mulp xx yy)))

/-- `−(x, y) = (−x, y)` (42_group R184). -/
def pointNeg (P : Point) : Point := ⟨negp P.x, P.y⟩

/-- The addition law P1 + P2 on E (42_group R186). -/
def pointAdd (P1 P2 : Point) : Point :=
  let xx := mulp P1.x P2.x
  let yy := mulp P1.y P2.y
  let t := mulp dCoeff (mulp xx yy)
  ⟨divp (addp (mulp P1.x P2.y) (mulp P1.y P2.x)) (addp feOne t), divp (addp yy xx) (subp feOne t)⟩

/-- The scalar multiple n·P as R187 defines it: 0·P = O and n·P = (n − 1)·P + P. No command evaluates it this way;
obligations tie `pointMul` to it. -/
def pointMulByAdding (P : Point) : Nat → Point
  | 0 => neutral
  | n + 1 => pointAdd (pointMulByAdding P n) P

/-- n·P for n below 2^k by doubling and adding, the most significant bit first. -/
def doubleAndAdd (P : Point) : Nat → Nat → Point
  | 0, _ => neutral
  | k + 1, n =>
    let Q := doubleAndAdd P k (n / 2)
    let D := pointAdd Q Q
    if n % 2 = 1 then pointAdd D P else D

/-- The scalar multiple n·P of the whole integer n (42_group R187), computed by doubling and adding (log entry 10). -/
def pointMul (n : Nat) (P : Point) : Point := doubleAndAdd P (n.log2 + 1) n

/-- `enc(P)` as the integer of its 32 bytes: y, with bit 255 the parity of x (42_group R181). -/
def encodePoint (P : Point) : Nat := P.y.val + (parity P.x).toNat * 2 ^ 255

/-- The y coordinate of a compressed point v: bits 254:0 reduced modulo p (42_group R182). -/
def compressedY (v : Nat) : Fe := Fe.ofNat (v % 2 ^ 255)

/-- The sign bit of a compressed point v: bit 255 (42_group R182). -/
def compressedSign (v : Nat) : Bool := v.testBit 255

/-- `dec(b)` for the integer v of the 32 bytes: the point and whether decoding succeeded; O on failure (42_group R182). -/
def decodePoint (v : Nat) : Point × Bool :=
  let y := compressedY v
  let yy := mulp y y
  let root := sqrtRatio (subp yy feOne) (addp (mulp dCoeff yy) feOne)
  if root.2 then (⟨withParity (compressedSign v) root.1, y⟩, true) else (neutral, false)

/-- The affine pair (x, y) if it is on E, else O, and which it was (42_group R202). -/
def loadAffine (x y : Fe) : Point × Bool := if onCurve x y then (⟨x, y⟩, true) else (neutral, false)

/-- The point (X/Z, Y/Z) if Z ≠ 0 and it is on E, else O, and which it was (42_group R203). -/
def loadProjective (X Y Z : Fe) : Point × Bool :=
  if Z = feZero then (neutral, false) else loadAffine (divp X Z) (divp Y Z)

/-- As `loadProjective`, and T·Z = X·Y as well (42_group R204). -/
def loadExtended (X Y Z T : Fe) : Point × Bool :=
  if mulp T Z = mulp X Y then loadProjective X Y Z else (neutral, false)

end Sys2Proof.Machine
end

