-- ==== Sys2Proof/Machine/HashMap.lean ====
section
/-! DEFINITION. The Elligator2 map and the conversion from Montgomery to Edwards form (44_hash_to_point R250, R251). -/

namespace Sys2Proof.Machine

/-- The Montgomery coefficient A_M as a field element (00_scope R9). -/
def montCoeff : Fe := Fe.ofNat Config.montA

/-- u² + A_M·u + 1. -/
def montQuadratic (u : Fe) : Fe := addp (addp (mulp u u) (mulp montCoeff u)) feOne

/-- u³ + A_M·u² + u, the right side of the Montgomery curve's equation (00_scope R9). -/
def montRhs (u : Fe) : Fe := mulp u (montQuadratic u)

/-- `ell2(r)`: the Elligator2 map to a Montgomery u-coordinate (44_hash_to_point R250). -/
def ell2 (r : Fe) : Fe :=
  let u1 := divp (negp montCoeff) (addp feOne (mulp (Fe.ofNat 2) (mulp r r)))
  if isSquare (montRhs u1) then u1 else subp (negp montCoeff) u1

/-- `m2e(u, sign)`: the Edwards point of a Montgomery u-coordinate whose x has the given parity, and whether u is one; O
if it is not (44_hash_to_point R251). -/
def m2e (u : Fe) (sign : Bool) : Point × Bool :=
  if isSquare (montRhs u) then
    let y := divp (subp u feOne) (addp u feOne)
    let root := sqrtRatio (mulp (negp (Fe.ofNat (Config.montA + 2))) u) (montQuadratic u)
    (⟨withParity sign root.1, y⟩, true)
  else (neutral, false)

end Sys2Proof.Machine
end

