-- ==== Sys2Proof/Machine/Ops.lean ====
section
/-! DEFINITION. The named operations over memory, registers and engine control that every meaning is written with:
byte memories in their one canonical form, the register files, the end of a command, fault entry and START. -/

namespace Sys2Proof.Machine

/-! ### Byte memories -/

/-- What an address reads as that nothing has written (the spec's `mem_init`, 10_state R38; log entry 1). -/
def unlistedByte : Byte := 0#8

/-- The byte at address a. -/
def Memory.read : Memory → Nat → Byte
  | [], _ => unlistedByte
  | (b, v) :: m, a => if b = a then v else Memory.read m a

/-- Byte v stored at address a; a byte equal to what an unlisted address reads as is not listed. -/
def Memory.write : Memory → Nat → Byte → Memory
  | [], a, v => if v = unlistedByte then [] else [(a, v)]
  | (b, u) :: m, a, v =>
    if a < b then (if v = unlistedByte then (b, u) :: m else (a, v) :: (b, u) :: m)
    else if b = a then (if v = unlistedByte then m else (a, v) :: m)
    else (b, u) :: Memory.write m a v

/-- The addresses rise strictly from `low`, lie below `size`, and no byte listed equals what an unlisted address
reads as. -/
def Memory.wfFrom (size : Nat) : Nat → Memory → Bool
  | _, [] => true
  | low, (a, v) :: m => decide (low ≤ a) && decide (a < size) && decide (v ≠ unlistedByte) && Memory.wfFrom size (a + 1) m

/-- The canonical form of a memory of `size` bytes. -/
def Memory.wf (size : Nat) (m : Memory) : Bool := Memory.wfFrom size 0 m

/-- `MemRead(addr, n)`: the n bytes from address a up (00_scope R15). -/
def Memory.readBytes (m : Memory) : Nat → Nat → List Byte
  | _, 0 => []
  | a, n + 1 => m.read a :: Memory.readBytes m (a + 1) n

/-- `MemWrite(addr, n, b)`: the bytes stored from address a up (00_scope R15). -/
def Memory.writeBytes (m : Memory) : Nat → List Byte → Memory
  | _, [] => m
  | a, b :: bs => Memory.writeBytes (m.write a b) (a + 1) bs

/-- The little-endian integer of the n bytes from address a up (20_memory R62). -/
def Memory.readLE (m : Memory) (a n : Nat) : Nat := fromLE (m.readBytes a n)

/-- The n-byte little-endian encoding of v stored from address a up (20_memory R62). -/
def Memory.writeLE (m : Memory) (a n v : Nat) : Memory := m.writeBytes a (toLE n v)

/-! ### Register files -/

/-- `F[i]` (00_scope R15). -/
def State.getF (s : State) (i : FReg) : Fe := s.fReg[i.val]

/-- `S[i]` (00_scope R15). -/
def State.getS (s : State) (i : SReg) : Scalar := s.sReg[i.val]

/-- `P[i]` (00_scope R15). -/
def State.getP (s : State) (i : PReg) : Point := s.pReg[i.val]

/-- `C[i]` (00_scope R15). -/
def State.getC (s : State) (i : CReg) : Bool := s.cReg[i.val]

/-- `F[i] <- v` (00_scope R15). -/
def State.setF (s : State) (i : FReg) (v : Fe) : State := { s with fReg := s.fReg.set i.val v }

/-- `S[i] <- v` (00_scope R15). -/
def State.setS (s : State) (i : SReg) (v : Scalar) : State := { s with sReg := s.sReg.set i.val v }

/-- `P[i] <- v` (00_scope R15). -/
def State.setP (s : State) (i : PReg) (v : Point) : State := { s with pReg := s.pReg.set i.val v }

/-- `C[i] <- v` (00_scope R15). -/
def State.setC (s : State) (i : CReg) (v : Bool) : State := { s with cReg := s.cReg.set i.val v }

/-- All sixteen conditions written at once. -/
def State.setConds (s : State) (c : Vector Bool 16) : State := { s with cReg := c }

/-- F, S and C to 0 and P to O: CLRALL, ZEROIZE and reset (40_control R125, 70_reset R300, R303). -/
def State.clearRegs (s : State) : State :=
  { s with
    fReg := Vector.replicate 16 feZero
    sReg := Vector.replicate 16 0#256
    pReg := Vector.replicate 16 neutral
    cReg := Vector.replicate 16 false }

/-- DMEM replaced. -/
def State.setDmem (s : State) (m : Memory) : State := { s with dmem := m }

/-- IMEM replaced. -/
def State.setImem (s : State) (m : Memory) : State := { s with imem := m }

/-! ### The end of a command, faults, and the start of a run -/

/-- The pc moves past the command: pc <- pc + 4 (40_control R121). -/
def State.advance (s : State) : State := { s with pc := s.pc + 4#13 }

/-- A command other than HALT completes with the state s (40_control R120, R121). -/
def retire (s : State) : Host.Outcome State Fault Refusal := .next s.advance

/-- The run ends: BUSY <- 0 and DONE <- 1; the pc stays (40_control R124). -/
def State.finishRun (s : State) : State := { s with busy := false, done := true }

/-- FAULT_INSN for a cause and the fetched word: the word for the two decoding faults, else 0 (60_exceptions R272). -/
def recordedWord (cause : FaultCause) (w : Word) : Word :=
  match cause with
  | .illegalOpcode => w
  | .illegalField => w
  | .none => 0#32
  | .fetchRange => 0#32
  | .aborted => 0#32

/-- TAKING A FAULT: `raise Fault(cause)` with fetched word w (60_exceptions R272). The cause, the pc and the word are
recorded, the engine stops, FAULT is set; nothing else changes. -/
def State.raiseFault (s : State) (cause : FaultCause) (w : Word) : State :=
  { s with
    faultCause := cause
    faultPc := s.pc
    faultInsn := recordedWord cause w
    busy := false
    fault := true }

/-- abort_req is consumed at the command boundary where the abort is taken (10_state R36; log entry 7). -/
def State.consumeAbort (s : State) : State := { s with abortReq := false }

/-- START_PC as a 13-bit address: bits 11:2 and zeros (10_state R30). -/
def State.startAddress (s : State) : BitVec 13 := (0#1 : BitVec 1) ++ s.startPc ++ (0#2 : BitVec 2)

/-- THE RETURN FROM A FAULT, and every other start of a run (60_exceptions R278): START while idle (10_state R40). -/
def State.startRun (s : State) : State :=
  { s with
    done := false
    fault := false
    faultCause := .none
    faultPc := 0#13
    faultInsn := 0#32
    abortReq := false
    pc := s.startAddress
    busy := true }

/-- A host-protocol error is noted: STATUS.HERR <- 1 (20_memory R66). -/
def State.setHerr (s : State) : State := { s with herr := true }

/-- The reset input: every piece of state but the memories at its reset value (70_reset R300, R301). What is still to
come of the schedule, the last read data and the count of draws are the model's own and stay. -/
def State.hardReset (s : State) : State :=
  { State.powerOn s.imem s.dmem with schedule := s.schedule, readData := s.readData, draws := s.draws }

/-- ZEROIZE while idle: register files and both memories cleared (70_reset R303). -/
def State.zeroize (s : State) : State := { s.clearRegs with imem := [], dmem := [] }

end Sys2Proof.Machine
end

