-- ==== Sys2Proof/Machine/Operands.lean ====
section
/-! DEFINITION. The operand forms of VXC-1: DMEM slots, immediates, and the values the slot commands move
(30_encoding R93, 20_memory R61, R68). -/

namespace Sys2Proof.Machine

/-- The byte address 32·n of slot n (20_memory R61). -/
def slotAddress (n : Slot) : Nat := Config.slotBytes * n.val

/-- The little-endian integer of slot n: `fromLE(MemRead(32·n, 32))` (20_memory R68). -/
def State.readSlot (s : State) (n : Slot) : Nat := s.dmem.readLE (slotAddress n) Config.slotBytes

/-- Slot n given the 32-byte encoding of v: `MemWrite(32·n, 32, LE_32(v))` (20_memory R68). -/
def State.writeSlot (s : State) (n : Slot) (v : Nat) : State :=
  s.setDmem (s.dmem.writeLE (slotAddress n) Config.slotBytes v)

/-- A slot's integer as a field element: bit 255 ignored, the rest reduced modulo p (41_field R141). -/
def feOfSlot (v : Nat) : Fe := Fe.ofNat (v % 2 ^ 255)

/-- A slot's integer as a scalar, unreduced (43_scalar R231). -/
def scalarOfSlot (v : Nat) : Scalar := BitVec.ofNat 256 v

/-- An immediate as a field element (41_field R144). -/
def feOfImm (imm : Nat) : Fe := Fe.ofNat imm

/-- An immediate as a scalar (43_scalar R234). -/
def scalarOfImm (imm : Nat) : Scalar := BitVec.ofNat 256 imm

/-- CSET's immediate as a condition: the bit w[12] (40_control R126). -/
def condOfImm (imm : Nat) : Bool := imm.testBit 0

/-- The residue of an integer modulo ℓ as a scalar (43_scalar R235, R237). -/
def scalarMod (n : Nat) : Scalar := BitVec.ofNat 256 (n % Config.ell)

/-- `clamp`: bits 0 to 2 and 255 cleared, bit 254 set (43_scalar R236). -/
def clamp (v : Scalar) : Scalar :=
  ((v &&& ~~~(7#256)) &&& ~~~(BitVec.ofNat 256 (2 ^ 255))) ||| BitVec.ofNat 256 (2 ^ 254)

end Sys2Proof.Machine
end

