-- ==== Sys2Proof/Machine/Flags.lean ====
section
/-! DEFINITION. Every single bit the CORE computes: the predicates that commands write to condition registers, the
condition vector that C_LD and C_ST move, and the interrupt output. VXC-1 has no other flags (10_state R23). -/

namespace Sys2Proof.Machine

/-- isNegative: the least-significant bit of the reduced encoding (41_field R156). -/
def isNegative (a : Fe) : Bool := parity a

/-- isZero (41_field R157). -/
def isZero (a : Fe) : Bool := decide (a = feZero)

/-- The scalar is below ℓ, "strict, not modular" (43_scalar R239). -/
def isCanonical (v : Scalar) : Bool := decide (v.toNat < Config.ell)

/-- The point is O (42_group R199). -/
def isIdentity (P : Point) : Bool := decide (P = neutral)

/-- The integer of a list of bits, least significant first. -/
def bitsToNat : List Bool → Nat
  | [] => 0
  | b :: bs => b.toNat + 2 * bitsToNat bs

/-- Σ C[i]·2^i, what C_ST writes (40_control R133). -/
def condsToNat (c : Vector Bool 16) : Nat := bitsToNat c.toList

/-- Bits 0 to 15 of a slot's integer, what C_LD loads (40_control R132). -/
def condsOfSlot (v : Nat) : Vector Bool 16 := Vector.ofFn fun i => v.testBit i.val

/-- The interrupt output: IE and (DONE or FAULT), a level (10_state R37, 60_exceptions R280). -/
def State.irq (s : State) : Bool := s.ie && (s.done || s.fault)

end Sys2Proof.Machine
end

