-- ==== Sys2Proof/Machine/Control.lean ====
section
/-! DEFINITION. Meanings of the engine and condition commands (40_control.md). Every source is read from the state before the command
(40_control R134). -/

namespace Sys2Proof.Machine

/-- NOP: nothing but the pc advance (40_control R123). -/
def execNop (s : State) : Host.Outcome State Fault Refusal :=
  retire s

/-- HALT: the run ends with DONE; the pc stays (40_control R124). -/
def execHalt (s : State) : Host.Outcome State Fault Refusal :=
  .next s.finishRun

/-- CLRALL: F, S and C become 0 and P becomes O (40_control R125). -/
def execClrall (s : State) : Host.Outcome State Fault Refusal :=
  retire s.clearRegs

/-- CSET: C[k] <- w[12] (40_control R126). -/
def execCset (k : CReg) (imm : Nat) (s : State) : Host.Outcome State Fault Refusal :=
  retire (s.setC k (condOfImm imm))

/-- CCPY: C[k] <- C[a] (40_control R127). -/
def execCcpy (k a : CReg) (s : State) : Host.Outcome State Fault Refusal :=
  retire (s.setC k (s.getC a))

/-- CNOT: C[k] <- 1 − C[a] (40_control R128). -/
def execCnot (k a : CReg) (s : State) : Host.Outcome State Fault Refusal :=
  retire (s.setC k (!s.getC a))

/-- CAND: C[k] <- C[a] AND C[b] (40_control R129). -/
def execCand (k a b : CReg) (s : State) : Host.Outcome State Fault Refusal :=
  retire (s.setC k (s.getC a && s.getC b))

/-- COR: C[k] <- C[a] OR C[b] (40_control R130). -/
def execCor (k a b : CReg) (s : State) : Host.Outcome State Fault Refusal :=
  retire (s.setC k (s.getC a || s.getC b))

/-- CXOR: C[k] <- C[a] XOR C[b] (40_control R131). -/
def execCxor (k a b : CReg) (s : State) : Host.Outcome State Fault Refusal :=
  retire (s.setC k (s.getC a ^^ s.getC b))

/-- C_LD: C[i] <- bit i of the slot, for i from 0 to 15 (40_control R132). -/
def execCLd (slot : Slot) (s : State) : Host.Outcome State Fault Refusal :=
  retire (s.setConds (condsOfSlot (s.readSlot slot)))

/-- C_ST: the slot <- Σ C[i]·2^i (40_control R133). -/
def execCSt (slot : Slot) (s : State) : Host.Outcome State Fault Refusal :=
  retire (s.writeSlot slot (condsToNat s.cReg))

end Sys2Proof.Machine
end

