-- ==== Sys2Proof/Machine/FieldCommands.lean ====
section
/-! DEFINITION. Meanings of the field commands (41_field.md). Every source is read from the state before the command
(40_control R134). -/

namespace Sys2Proof.Machine

/-- FE_MOV: F[d] <- F[a] (41_field R143). -/
def execFeMov (d a : FReg) (s : State) : Host.Outcome State Fault Refusal :=
  retire (s.setF d (s.getF a))

/-- FE_LDI: F[d] <- imm20 (41_field R144). -/
def execFeLdi (d : FReg) (imm : Nat) (s : State) : Host.Outcome State Fault Refusal :=
  retire (s.setF d (feOfImm imm))

/-- FE_ADD: F[d] <- F[a] + F[b] mod p (41_field R145). -/
def execFeAdd (d a b : FReg) (s : State) : Host.Outcome State Fault Refusal :=
  retire (s.setF d (addp (s.getF a) (s.getF b)))

/-- FE_SUB: F[d] <- F[a] − F[b] mod p (41_field R146). -/
def execFeSub (d a b : FReg) (s : State) : Host.Outcome State Fault Refusal :=
  retire (s.setF d (subp (s.getF a) (s.getF b)))

/-- FE_NEG: F[d] <- −F[a] mod p (41_field R147). -/
def execFeNeg (d a : FReg) (s : State) : Host.Outcome State Fault Refusal :=
  retire (s.setF d (negp (s.getF a)))

/-- FE_MUL: F[d] <- F[a]·F[b] mod p (41_field R148). -/
def execFeMul (d a b : FReg) (s : State) : Host.Outcome State Fault Refusal :=
  retire (s.setF d (mulp (s.getF a) (s.getF b)))

/-- FE_SQ: F[d] <- F[a]² mod p (41_field R149). -/
def execFeSq (d a : FReg) (s : State) : Host.Outcome State Fault Refusal :=
  retire (s.setF d (mulp (s.getF a) (s.getF a)))

/-- FE_SQ2: F[d] <- 2·F[a]² mod p (41_field R150). -/
def execFeSq2 (d a : FReg) (s : State) : Host.Outcome State Fault Refusal :=
  retire (s.setF d (mulp (Fe.ofNat 2) (mulp (s.getF a) (s.getF a))))

/-- FE_INV: F[d] <- F[a]^(p−2) mod p, so the inverse of 0 is 0 (41_field R151). -/
def execFeInv (d a : FReg) (s : State) : Host.Outcome State Fault Refusal :=
  retire (s.setF d (invp (s.getF a)))

/-- FE_POW22523: F[d] <- F[a]^((p−5)/8) mod p (41_field R152). -/
def execFePow22523 (d a : FReg) (s : State) : Host.Outcome State Fault Refusal :=
  retire (s.setF d (powp (s.getF a) ((Config.p - 5) / 8)))

/-- FE_SQRTR: (F[d], C[k]) <- sqrt_ratio(F[a], F[b]) (41_field R154). -/
def execFeSqrtr (d : FReg) (k : CReg) (a b : FReg) (s : State) : Host.Outcome State Fault Refusal :=
  let r := sqrtRatio (s.getF a) (s.getF b)
  retire ((s.setF d r.1).setC k r.2)

/-- FE_ISNEG: C[k] <- F[a] mod 2 (41_field R156). -/
def execFeIsneg (k : CReg) (a : FReg) (s : State) : Host.Outcome State Fault Refusal :=
  retire (s.setC k (isNegative (s.getF a)))

/-- FE_ISZERO: C[k] <- (F[a] = 0) (41_field R157). -/
def execFeIszero (k : CReg) (a : FReg) (s : State) : Host.Outcome State Fault Refusal :=
  retire (s.setC k (isZero (s.getF a)))

/-- FE_CMOV: F[d] <- F[a] when C[k] = 1 (41_field R158). -/
def execFeCmov (d a : FReg) (k : CReg) (s : State) : Host.Outcome State Fault Refusal :=
  retire (if s.getC k then s.setF d (s.getF a) else s)

/-- FE_CSWAP: F[d] and F[a] exchanged when C[k] = 1, d written first (41_field R159). -/
def execFeCswap (d a : FReg) (k : CReg) (s : State) : Host.Outcome State Fault Refusal :=
  retire (if s.getC k then (s.setF d (s.getF a)).setF a (s.getF d) else s)

/-- FE_LD: F[d] <- bits 254:0 of the slot mod p (41_field R141). -/
def execFeLd (d : FReg) (slot : Slot) (s : State) : Host.Outcome State Fault Refusal :=
  retire (s.setF d (feOfSlot (s.readSlot slot)))

/-- FE_ST: the slot <- F[d] (41_field R142). -/
def execFeSt (slot : Slot) (d : FReg) (s : State) : Host.Outcome State Fault Refusal :=
  retire (s.writeSlot slot (s.getF d).val)

end Sys2Proof.Machine
end

