-- ==== Sys2Proof/Machine/GroupCommands.lean ====
section
/-! DEFINITION. Meanings of the group commands (42_group.md). Every source is read from the state before the command
(40_control R134). -/

namespace Sys2Proof.Machine

/-- PT_DEC: (P[d], C[k]) <- dec(slot) (42_group R200). -/
def execPtDec (d : PReg) (k : CReg) (slot : Slot) (s : State) : Host.Outcome State Fault Refusal :=
  let r := decodePoint (s.readSlot slot)
  retire ((s.setP d r.1).setC k r.2)

/-- PT_ENC: the slot <- enc(P[d]) (42_group R201). -/
def execPtEnc (slot : Slot) (d : PReg) (s : State) : Host.Outcome State Fault Refusal :=
  retire (s.writeSlot slot (encodePoint (s.getP d)))

/-- PT_MOV: P[d] <- P[a] (42_group R188). -/
def execPtMov (d a : PReg) (s : State) : Host.Outcome State Fault Refusal :=
  retire (s.setP d (s.getP a))

/-- PT_ID: P[d] <- O (42_group R189). -/
def execPtId (d : PReg) (s : State) : Host.Outcome State Fault Refusal :=
  retire (s.setP d neutral)

/-- PT_BASE: P[d] <- B (42_group R190). -/
def execPtBase (d : PReg) (s : State) : Host.Outcome State Fault Refusal :=
  retire (s.setP d basePoint)

/-- PT_ADD: P[d] <- P[a] + P[b] (42_group R191). -/
def execPtAdd (d a b : PReg) (s : State) : Host.Outcome State Fault Refusal :=
  retire (s.setP d (pointAdd (s.getP a) (s.getP b)))

/-- PT_DBL: P[d] <- P[a] + P[a] (42_group R192). -/
def execPtDbl (d a : PReg) (s : State) : Host.Outcome State Fault Refusal :=
  retire (s.setP d (pointAdd (s.getP a) (s.getP a)))

/-- PT_NEG: P[d] <- −P[a] (42_group R193). -/
def execPtNeg (d a : PReg) (s : State) : Host.Outcome State Fault Refusal :=
  retire (s.setP d (pointNeg (s.getP a)))

/-- PT_MUL8: P[d] <- 8·P[a] (42_group R197). -/
def execPtMul8 (d a : PReg) (s : State) : Host.Outcome State Fault Refusal :=
  retire (s.setP d (pointMul 8 (s.getP a)))

/-- PT_CMOV: P[d] <- P[a] when C[k] = 1 (42_group R198). -/
def execPtCmov (d a : PReg) (k : CReg) (s : State) : Host.Outcome State Fault Refusal :=
  retire (if s.getC k then s.setP d (s.getP a) else s)

/-- PT_ISID: C[k] <- (P[a] = O) (42_group R199). -/
def execPtIsid (k : CReg) (a : PReg) (s : State) : Host.Outcome State Fault Refusal :=
  retire (s.setC k (isIdentity (s.getP a)))

/-- PT_SMULB: P[d] <- S[b]·B, the full integer (42_group R194). -/
def execPtSmulb (d : PReg) (b : SReg) (s : State) : Host.Outcome State Fault Refusal :=
  retire (s.setP d (pointMul (s.getS b).toNat basePoint))

/-- PT_SMUL: P[d] <- S[b]·P[a], the full integer (42_group R195). -/
def execPtSmul (d a : PReg) (b : SReg) (s : State) : Host.Outcome State Fault Refusal :=
  retire (s.setP d (pointMul (s.getS b).toNat (s.getP a)))

/-- PT_DSMUL: P[d] <- S[b]·P[a] + S[c]·B, the full integers (42_group R196). -/
def execPtDsmul (d a : PReg) (b c : SReg) (s : State) : Host.Outcome State Fault Refusal :=
  retire (s.setP d (pointAdd (pointMul (s.getS b).toNat (s.getP a)) (pointMul (s.getS c).toNat basePoint)))

/-- PT_LDAFF: (P[d], C[k]) <- the affine pair (F[a], F[b]) if on E, else (O, 0) (42_group R202). -/
def execPtLdaff (d : PReg) (k : CReg) (a b : FReg) (s : State) : Host.Outcome State Fault Refusal :=
  let r := loadAffine (s.getF a) (s.getF b)
  retire ((s.setP d r.1).setC k r.2)

/-- PT_LDPROJ: (P[d], C[k]) <- the projective point (F[a], F[b], F[c]) if valid, else (O, 0) (42_group R203). -/
def execPtLdproj (d : PReg) (k : CReg) (a b c : FReg) (s : State) : Host.Outcome State Fault Refusal :=
  let r := loadProjective (s.getF a) (s.getF b) (s.getF c)
  retire ((s.setP d r.1).setC k r.2)

/-- PT_LDEXT: (P[d], C[k]) <- the extended point (F[a], F[b], F[c], F[e]) if valid, else (O, 0) (42_group R204). -/
def execPtLdext (d : PReg) (k : CReg) (a b c e : FReg) (s : State) : Host.Outcome State Fault Refusal :=
  let r := loadExtended (s.getF a) (s.getF b) (s.getF c) (s.getF e)
  retire ((s.setP d r.1).setC k r.2)

/-- PT_STAFF: F[d] <- x and then F[a] <- y of P[b] (42_group R205). -/
def execPtStaff (d a : FReg) (b : PReg) (s : State) : Host.Outcome State Fault Refusal :=
  retire ((s.setF d (s.getP b).x).setF a (s.getP b).y)

end Sys2Proof.Machine
end

