-- ==== Sys2Proof/Machine/HashCommands.lean ====
section
/-! DEFINITION. Meanings of the hash-to-point commands (44_hash_to_point.md). Every source is read from the state before the command
(40_control R134). -/

namespace Sys2Proof.Machine

/-- H2P_ELL2: F[d] <- ell2(F[a]) (44_hash_to_point R252). -/
def execH2pEll2 (d a : FReg) (s : State) : Host.Outcome State Fault Refusal :=
  retire (s.setF d (ell2 (s.getF a)))

/-- H2P_M2E: (P[d], C[k]) <- m2e(F[a], C[b]) (44_hash_to_point R253). -/
def execH2pM2e (d : PReg) (k : CReg) (a : FReg) (b : CReg) (s : State) : Host.Outcome State Fault Refusal :=
  let r := m2e (s.getF a) (s.getC b)
  retire ((s.setP d r.1).setC k r.2)

/-- H2P: P[d] <- 8·Q for Q = m2e(ell2(F[a]), C[b]) (44_hash_to_point R254). -/
def execH2p (d : PReg) (a : FReg) (b : CReg) (s : State) : Host.Outcome State Fault Refusal :=
  retire (s.setP d (pointMul 8 (m2e (ell2 (s.getF a)) (s.getC b)).1))

end Sys2Proof.Machine
end

