-- ==== Sys2Proof/Machine/ScalarCommands.lean ====
section
/-! DEFINITION. Meanings of the scalar commands (43_scalar.md). Every source is read from the state before the command
(40_control R134). -/

namespace Sys2Proof.Machine

/-- SC_LD: S[d] <- the slot, unreduced (43_scalar R231). -/
def execScLd (d : SReg) (slot : Slot) (s : State) : Host.Outcome State Fault Refusal :=
  retire (s.setS d (scalarOfSlot (s.readSlot slot)))

/-- SC_ST: the slot <- S[d] (43_scalar R232). -/
def execScSt (slot : Slot) (d : SReg) (s : State) : Host.Outcome State Fault Refusal :=
  retire (s.writeSlot slot (s.getS d).toNat)

/-- SC_MOV: S[d] <- S[a] (43_scalar R233). -/
def execScMov (d a : SReg) (s : State) : Host.Outcome State Fault Refusal :=
  retire (s.setS d (s.getS a))

/-- SC_LDI: S[d] <- imm20 (43_scalar R234). -/
def execScLdi (d : SReg) (imm : Nat) (s : State) : Host.Outcome State Fault Refusal :=
  retire (s.setS d (scalarOfImm imm))

/-- SC_REDUCE: S[d] <- (S[b]·2^256 + S[a]) mod ℓ (43_scalar R235). -/
def execScReduce (d a b : SReg) (s : State) : Host.Outcome State Fault Refusal :=
  retire (s.setS d (scalarMod ((s.getS b).toNat * 2 ^ 256 + (s.getS a).toNat)))

/-- SC_MULADD: S[d] <- (S[a]·S[b] + S[c]) mod ℓ (43_scalar R237). -/
def execScMuladd (d a b c : SReg) (s : State) : Host.Outcome State Fault Refusal :=
  retire (s.setS d (scalarMod ((s.getS a).toNat * (s.getS b).toNat + (s.getS c).toNat)))

/-- SC_CLAMP: S[d] <- clamp(S[a]) (43_scalar R236). -/
def execScClamp (d a : SReg) (s : State) : Host.Outcome State Fault Refusal :=
  retire (s.setS d (clamp (s.getS a)))

/-- SC_CMOV: S[d] <- S[a] when C[k] = 1 (43_scalar R238). -/
def execScCmov (d a : SReg) (k : CReg) (s : State) : Host.Outcome State Fault Refusal :=
  retire (if s.getC k then s.setS d (s.getS a) else s)

/-- SC_ISCANON: C[k] <- (S[a] < ℓ) (43_scalar R239). -/
def execScIscanon (k : CReg) (a : SReg) (s : State) : Host.Outcome State Fault Refusal :=
  retire (s.setC k (isCanonical (s.getS a)))

end Sys2Proof.Machine
end

