-- ==== Sys2Proof/Machine/Dispatch.lean ====
section
/-! DEFINITION. exec: one arm per command, each one call of the command's own meaning. -/

namespace Sys2Proof.Machine

def exec (i : Instr) (s : State) : Host.Outcome State Fault Refusal :=
  match i with
  | .nop => Sys2Proof.Machine.execNop s
  | .halt => Sys2Proof.Machine.execHalt s
  | .clrall => Sys2Proof.Machine.execClrall s
  | .cset k imm => Sys2Proof.Machine.execCset k imm s
  | .ccpy k a => Sys2Proof.Machine.execCcpy k a s
  | .cnot k a => Sys2Proof.Machine.execCnot k a s
  | .cand k a b => Sys2Proof.Machine.execCand k a b s
  | .cor k a b => Sys2Proof.Machine.execCor k a b s
  | .cxor k a b => Sys2Proof.Machine.execCxor k a b s
  | .feMov d a => Sys2Proof.Machine.execFeMov d a s
  | .feLdi d imm => Sys2Proof.Machine.execFeLdi d imm s
  | .feAdd d a b => Sys2Proof.Machine.execFeAdd d a b s
  | .feSub d a b => Sys2Proof.Machine.execFeSub d a b s
  | .feNeg d a => Sys2Proof.Machine.execFeNeg d a s
  | .feMul d a b => Sys2Proof.Machine.execFeMul d a b s
  | .feSq d a => Sys2Proof.Machine.execFeSq d a s
  | .feSq2 d a => Sys2Proof.Machine.execFeSq2 d a s
  | .feInv d a => Sys2Proof.Machine.execFeInv d a s
  | .fePow22523 d a => Sys2Proof.Machine.execFePow22523 d a s
  | .feSqrtr d k a b => Sys2Proof.Machine.execFeSqrtr d k a b s
  | .feIsneg k a => Sys2Proof.Machine.execFeIsneg k a s
  | .feIszero k a => Sys2Proof.Machine.execFeIszero k a s
  | .feCmov d a k => Sys2Proof.Machine.execFeCmov d a k s
  | .feCswap d a k => Sys2Proof.Machine.execFeCswap d a k s
  | .feLd d slot => Sys2Proof.Machine.execFeLd d slot s
  | .feSt slot d => Sys2Proof.Machine.execFeSt slot d s
  | .scLd d slot => Sys2Proof.Machine.execScLd d slot s
  | .scSt slot d => Sys2Proof.Machine.execScSt slot d s
  | .ptDec d k slot => Sys2Proof.Machine.execPtDec d k slot s
  | .ptEnc slot d => Sys2Proof.Machine.execPtEnc slot d s
  | .cLd slot => Sys2Proof.Machine.execCLd slot s
  | .cSt slot => Sys2Proof.Machine.execCSt slot s
  | .scMov d a => Sys2Proof.Machine.execScMov d a s
  | .scLdi d imm => Sys2Proof.Machine.execScLdi d imm s
  | .scReduce d a b => Sys2Proof.Machine.execScReduce d a b s
  | .scMuladd d a b c => Sys2Proof.Machine.execScMuladd d a b c s
  | .scClamp d a => Sys2Proof.Machine.execScClamp d a s
  | .scCmov d a k => Sys2Proof.Machine.execScCmov d a k s
  | .scIscanon k a => Sys2Proof.Machine.execScIscanon k a s
  | .ptMov d a => Sys2Proof.Machine.execPtMov d a s
  | .ptId d => Sys2Proof.Machine.execPtId d s
  | .ptBase d => Sys2Proof.Machine.execPtBase d s
  | .ptAdd d a b => Sys2Proof.Machine.execPtAdd d a b s
  | .ptDbl d a => Sys2Proof.Machine.execPtDbl d a s
  | .ptNeg d a => Sys2Proof.Machine.execPtNeg d a s
  | .ptMul8 d a => Sys2Proof.Machine.execPtMul8 d a s
  | .ptCmov d a k => Sys2Proof.Machine.execPtCmov d a k s
  | .ptIsid k a => Sys2Proof.Machine.execPtIsid k a s
  | .ptSmulb d b => Sys2Proof.Machine.execPtSmulb d b s
  | .ptSmul d a b => Sys2Proof.Machine.execPtSmul d a b s
  | .ptDsmul d a b c => Sys2Proof.Machine.execPtDsmul d a b c s
  | .ptLdaff d k a b => Sys2Proof.Machine.execPtLdaff d k a b s
  | .ptLdproj d k a b c => Sys2Proof.Machine.execPtLdproj d k a b c s
  | .ptLdext d k a b c e => Sys2Proof.Machine.execPtLdext d k a b c e s
  | .ptStaff d a b => Sys2Proof.Machine.execPtStaff d a b s
  | .h2pEll2 d a => Sys2Proof.Machine.execH2pEll2 d a s
  | .h2pM2e d k a b => Sys2Proof.Machine.execH2pM2e d k a b s
  | .h2p d a b => Sys2Proof.Machine.execH2p d a b s

end Sys2Proof.Machine
end

