-- ==== Sys2Proof/Machine/HostPort.lean ====
section
/-! DEFINITION. The host port: the eight registers, the window over IMEM and DMEM, the three actions of CTRL, and the
host-protocol errors (10_state R27 to R40, 20_memory R63 to R67, 60_exceptions R276, R281, 70_reset R303). -/

namespace Sys2Proof.Machine

/-- The window offset of a platform byte address, for a window at `base`; none outside the window (20_memory R63). The
platform's `base` is Config.coreBase (log entry 16). -/
def windowOffset (base addr : Nat) : Option (BitVec 14) :=
  if base ≤ addr ∧ addr < base + Config.windowBytes then some (BitVec.ofNat 14 (addr - base)) else none

/-- One bit at a bit position of a register word. -/
def bitAt (b : Bool) (pos : Nat) : Nat := b.toNat * 2 ^ pos

/-- CTRL as read: IE in bit 8, 0 elsewhere (10_state R28). -/
def State.ctrlWord (s : State) : Word := BitVec.ofNat 32 (bitAt s.ie 8)

/-- STATUS as read: BUSY, DONE, FAULT, HERR in bits 0 to 3 (10_state R29). -/
def State.statusWord (s : State) : Word :=
  BitVec.ofNat 32 (bitAt s.busy 0 + bitAt s.done 1 + bitAt s.fault 2 + bitAt s.herr 3)

/-- The code of a fault cause (60_exceptions R270). -/
def causeCode : FaultCause → Nat
  | .none => 0
  | .illegalOpcode => 1
  | .illegalField => 2
  | .fetchRange => 3
  | .aborted => 4

/-- The PC register as read: exact while idle, a free value of 0 to 4096 while busy (10_state R31). -/
def State.pcWord (s : State) : Word :=
  if s.busy then BitVec.ofNat 32 (Config.busyPc s.draws).val else s.pc.setWidth 32

/-- The state after a read of the PC register: a read while busy uses up one draw, no other read has an effect. -/
def State.afterPcRead (s : State) : State := if s.busy then { s with draws := s.draws + 1 } else s

/-- What a read of the register at window offset o returns (10_state R27). -/
def State.registerWord (s : State) (o : Nat) : Word :=
  if o = 0x3000 then s.ctrlWord
  else if o = 0x3004 then s.statusWord
  else if o = 0x3008 then s.startAddress.setWidth 32
  else if o = 0x300C then s.pcWord
  else if o = 0x3010 then BitVec.ofNat 32 (causeCode s.faultCause)
  else if o = 0x3014 then s.faultPc.setWidth 32
  else if o = 0x3018 then s.faultInsn
  else Config.idValue

/-- START (10_state R40): refused with HERR while busy. -/
def State.hostStart (s : State) : State := if s.busy then s.setHerr else s.startRun

/-- ABORT (60_exceptions R276): noted while busy, nothing while idle. -/
def State.hostAbort (s : State) : State := if s.busy then { s with abortReq := true } else s

/-- ZEROIZE (70_reset R303): refused with HERR while busy. -/
def State.hostZeroize (s : State) : State := if s.busy then s.setHerr else s.zeroize

/-- A write of w to CTRL: IE first; then one action bit acts, two or more are an error (10_state R28). -/
def State.writeCtrl (s : State) (w : Word) : State :=
  let s1 := { s with ie := w.getLsbD 8 }
  match w.getLsbD 0, w.getLsbD 1, w.getLsbD 2 with
  | false, false, false => s1
  | true, false, false => s1.hostStart
  | false, true, false => s1.hostAbort
  | false, false, true => s1.hostZeroize
  | true, true, false => s1.setHerr
  | true, false, true => s1.setHerr
  | false, true, true => s1.setHerr
  | true, true, true => s1.setHerr

/-- A write of w to STATUS: a 1 clears DONE, FAULT or HERR; BUSY is read-only (10_state R29, 60_exceptions R281). -/
def State.writeStatus (s : State) (w : Word) : State :=
  { s with
    done := s.done && !w.getLsbD 1
    fault := s.fault && !w.getLsbD 2
    herr := s.herr && !w.getLsbD 3 }

/-- A write of w to START_PC: bits 11:2 (10_state R30). -/
def State.writeStartPc (s : State) (w : Word) : State := { s with startPc := w.extractLsb' 2 10 }

/-- A write of w to the register at window offset o; PC, FAULT_* and ID are read-only (10_state R27). -/
def State.writeRegister (s : State) (o : Nat) (w : Word) : State :=
  if o = 0x3000 then s.writeCtrl w
  else if o = 0x3004 then s.writeStatus w
  else if o = 0x3008 then s.writeStartPc w
  else s

/-- The access is one aligned 32-bit word (20_memory R64). -/
def wellFormedAccess (size : Nat) (o : Nat) : Bool := decide (size = 4) && decide (o % 4 = 0)

/-- The read answered with v. -/
def State.answer (s : State) (v : Word) : State := { s with readData := v }

/-- A refused read: 0, and HERR (20_memory R66). -/
def State.refuseRead (s : State) : State := s.setHerr.answer 0#32

/-- A host read (20_memory R63 to R67). -/
def State.hostRead (s : State) (size o : Nat) : State :=
  if wellFormedAccess size o then
    if o < 0x1000 then
      if s.busy then s.refuseRead else s.answer (BitVec.ofNat 32 (s.imem.readLE o 4))
    else if o < 0x3000 then
      if s.busy then s.refuseRead else s.answer (BitVec.ofNat 32 (s.dmem.readLE (o - 0x1000) 4))
    else if o = 0x300C then s.afterPcRead.answer s.pcWord
    else if o < 0x3020 then s.answer (s.registerWord o)
    else s.refuseRead
  else s.refuseRead

/-- A host write (20_memory R63 to R67). -/
def State.hostWrite (s : State) (size o : Nat) (w : Word) : State :=
  if wellFormedAccess size o then
    if o < 0x1000 then
      if s.busy then s.setHerr else s.setImem (s.imem.writeLE o 4 w.toNat)
    else if o < 0x3000 then
      if s.busy then s.setHerr else s.setDmem (s.dmem.writeLE (o - 0x1000) 4 w.toNat)
    else if o < 0x3020 then s.writeRegister o w
    else s.setHerr
  else s.setHerr

/-- One access of the HOST. -/
def State.hostAccess (s : State) : HostAccess → State
  | .read size offset => s.hostRead size offset.toNat
  | .write size offset value => s.hostWrite size offset.toNat value

end Sys2Proof.Machine
end

