-- ==== Sys2Proof/Machine/Engine.lean ====
section
/-! DEFINITION. The engine's step (40_control R120): the command boundary, the fetch, the decoding faults, and one
event of the total order of engine steps, host accesses and resets (20_memory R72). -/

namespace Sys2Proof.Machine

/-- pc names a command of IMEM: a multiple of 4, at most 4092 (20_memory R69). -/
def isCommandAddress (pc : BitVec 13) : Bool := decide (pc.toNat % 4 = 0) && decide (pc.toNat < Config.imemBytes)

/-- The command word at pc: `fromLE(IRead(pc))` (20_memory R69). -/
def State.fetchedWord (s : State) : Word := BitVec.ofNat 32 (s.imem.readLE s.pc.toNat 4)

/-- Performing a fetched word: the decoding faults, else the command (30_encoding R94). -/
def State.perform (s : State) (w : Word) : Host.Outcome State Fault Refusal :=
  match decode w with
  | .instr i => exec i s
  | .illegalOpcode => .next (s.raiseFault .illegalOpcode w)
  | .illegalField => .next (s.raiseFault .illegalField w)

/-- The engine's step in the order of 60_exceptions R277. An idle engine fetches nothing and nothing changes
(70_reset R302; log entry 3). -/
def State.engineStep (s : State) : Host.Outcome State Fault Refusal :=
  if s.busy then
    if s.abortReq then .next (s.consumeAbort.raiseFault .aborted 0#32)
    else if s.pc = 4096#13 then .next (s.raiseFault .fetchRange 0#32)
    else if isCommandAddress s.pc then s.perform s.fetchedWord
    else .fault .noCommandAddress
  else .next s

/-- The next event of the schedule taken; with no event left, the engine moves (log entry 2). -/
def State.agentStep (s : State) : Host.Outcome State Fault Refusal :=
  match s.schedule with
  | [] => s.engineStep
  | .engine :: rest => { s with schedule := rest }.engineStep
  | .host a :: rest => .next ({ s with schedule := rest }.hostAccess a)
  | .reset :: rest => .next { s with schedule := rest }.hardReset

/-- Where the engine fetches its next command: pc, or 0 if pc is no command address. -/
def State.fetchAddress (s : State) : BitVec 13 := if isCommandAddress s.pc then s.pc else 0#13

/-- A table word of nbits bits laid out in IMEM at address a (20_memory R62 (b)). -/
def Memory.placeCommand (m : Memory) (a nbits w : Nat) : Memory := m.writeLE a 4 (w % 2 ^ nbits)

end Sys2Proof.Machine
end

