-- ==== Sys2Proof/Machine/Step.lean ====
section
/-! DEFINITION. The machine's step, and the placing of one command where the next step fetches. -/

namespace Sys2Proof.Machine

/-- One event of the machine: the next of the schedule, or the engine's step. -/
def step (s : State) : Host.Outcome State Fault Refusal := s.agentStep

/-- s with the command w placed where the engine fetches next and the engine running, so that the next step runs it. It
stands for what a host does between reset and a program's first command: the load of IMEM and START (log entry 4). -/
def State.withFetchWord (s : State) (nbits w : Nat) : State :=
  { s with
    pc := s.fetchAddress
    imem := s.imem.placeCommand s.fetchAddress.toNat nbits w
    busy := true
    abortReq := false
    schedule := [] }

end Sys2Proof.Machine
end

