-- ==== Sys2Proof/Safety.lean ====
section
/-! DEFINITION. The terms claims are stated in: the legal states, what a command leaves unchanged, how a command word is
encoded, and the spec's own definitions of the values that the model computes by another method. -/

namespace Sys2Proof.Machine

/-! ### Legal states -/

/-- The invariant of the machine's control state and memories. -/
structure State.Legal (s : State) : Prop where
  /-- IMEM is canonical (20_memory R60). -/
  imem : s.imem.wf Config.imemBytes = true
  /-- DMEM is canonical (20_memory R61). -/
  dmem : s.dmem.wf Config.dmemBytes = true
  /-- pc is a multiple of 4 (10_state R25). -/
  pcAligned : s.pc.toNat % 4 = 0
  /-- pc is at most 4096 (10_state R25). -/
  pcRange : s.pc.toNat ≤ 4096
  /-- DONE and FAULT are never both 1 (10_state R29). -/
  notBoth : ¬ (s.done = true ∧ s.fault = true)
  /-- While BUSY is 1, DONE and FAULT are 0 (10_state R29). -/
  runningClear : s.busy = true → s.done = false ∧ s.fault = false
  /-- abort_req is 1 only during a run (10_state R36). -/
  abortInRun : s.abortReq = true → s.busy = true
  /-- A run in progress and a run that ended in DONE have no fault recorded (10_state R32). -/
  recordClear : s.busy = true ∨ s.done = true → s.faultCause = .none
  /-- STATUS.FAULT comes with a recorded cause (60_exceptions R272). -/
  faultRecorded : s.fault = true → s.faultCause ≠ .none
  /-- With no cause recorded the rest of the record is 0 (10_state R32). -/
  emptyRecord : s.faultCause = .none → s.faultPc = 0#13 ∧ s.faultInsn = 0#32
  /-- After a run ending in a fault PC reads FAULT_PC (10_state R31). -/
  pcAtFault : s.faultCause ≠ .none → s.pc = s.faultPc
  /-- FAULT_INSN is 0 for FETCH_RANGE and ABORTED (10_state R32). -/
  noWord : s.faultCause = .fetchRange ∨ s.faultCause = .aborted → s.faultInsn = 0#32
  /-- FETCH_RANGE is recorded at pc 4096 only (60_exceptions R271). -/
  rangePc : s.faultCause = .fetchRange → s.faultPc = 4096#13
  /-- The word recorded with ILLEGAL_OPCODE has no opcode (60_exceptions R273). -/
  opcodeWord : s.faultCause = .illegalOpcode → decode s.faultInsn = .illegalOpcode
  /-- The word recorded with ILLEGAL_FIELD has a bit in an unused field (60_exceptions R274). -/
  fieldWord : s.faultCause = .illegalField → decode s.faultInsn = .illegalField

/-- The point lies on the curve E (42_group R183). -/
def OnE (P : Point) : Prop := onCurve P.x P.y = true

/-- Every point register holds a point of E (10_state R22). -/
def State.PointsOnE (s : State) : Prop := ∀ i, OnE (s.getP i)

/-! ### Frames -/

/-- The field registers but those listed are unchanged. -/
def SameF (s t : State) (but : List FReg) : Prop := ∀ i, i ∉ but → t.getF i = s.getF i

/-- The scalar registers but those listed are unchanged. -/
def SameS (s t : State) (but : List SReg) : Prop := ∀ i, i ∉ but → t.getS i = s.getS i

/-- The point registers but those listed are unchanged. -/
def SameP (s t : State) (but : List PReg) : Prop := ∀ i, i ∉ but → t.getP i = s.getP i

/-- The condition registers but those listed are unchanged. -/
def SameC (s t : State) (but : List CReg) : Prop := ∀ i, i ∉ but → t.getC i = s.getC i

/-- All four register files are unchanged. -/
def SameRegisters (s t : State) : Prop := SameF s t [] ∧ SameS s t [] ∧ SameP s t [] ∧ SameC s t []

/-- Every byte of IMEM is unchanged. -/
def SameImem (s t : State) : Prop := ∀ a, t.imem.read a = s.imem.read a

/-- Every byte of DMEM is unchanged. -/
def SameDmem (s t : State) : Prop := ∀ a, t.dmem.read a = s.dmem.read a

/-- Every byte of DMEM outside slot n is unchanged. -/
def SameDmemOutside (s t : State) (n : Slot) : Prop :=
  ∀ a, (a < slotAddress n ∨ slotAddress n + 32 ≤ a) → t.dmem.read a = s.dmem.read a

/-- The fault record is unchanged. -/
def SameRecord (s t : State) : Prop :=
  t.faultCause = s.faultCause ∧ t.faultPc = s.faultPc ∧ t.faultInsn = s.faultInsn

/-- BUSY and DONE are unchanged. -/
def SameRun (s t : State) : Prop := t.busy = s.busy ∧ t.done = s.done

/-- The host-port state that no command writes is unchanged, and so are the model's own fields. -/
def SameHost (s t : State) : Prop :=
  t.abortReq = s.abortReq ∧ t.ie = s.ie ∧ t.fault = s.fault ∧ t.herr = s.herr ∧ t.startPc = s.startPc ∧
  SameRecord s t ∧ t.schedule = s.schedule ∧ t.readData = s.readData ∧ t.draws = s.draws

/-- A command that stores nothing changed no more than the registers listed, and the pc. -/
def Frame (s t : State) (fs : List FReg) (ss : List SReg) (ps : List PReg) (cs : List CReg) : Prop :=
  SameF s t fs ∧ SameS s t ss ∧ SameP s t ps ∧ SameC s t cs ∧ SameImem s t ∧ SameDmem s t ∧ SameRun s t ∧ SameHost s t

/-- A command that stores to slot n changed no more than the slot's 32 bytes, and the pc. -/
def StoreFrame (s t : State) (n : Slot) : Prop :=
  SameRegisters s t ∧ SameImem s t ∧ SameDmemOutside s t n ∧ SameRun s t ∧ SameHost s t

/-! ### Encodings -/

/-- A word whose opcode is that of `fixed` decodes to the command of its fields when the bits under `mask` are those of
`fixed`, and is refused as ILLEGAL_FIELD otherwise (30_encoding R94). -/
def EncodedBy (mask fixed : Word) (build : Word → Instr) : Prop :=
  ∀ w, opOf w = opOf fixed → decode w = if w &&& mask = fixed then .instr (build w) else .illegalField

/-- The 198 unassigned opcodes (30_encoding R97 (a)). -/
def unassignedOpcode (op : Nat) : Prop :=
  (0x03 ≤ op ∧ op ≤ 0x07) ∨ op = 0x0E ∨ op = 0x0F ∨ op = 0x1F ∨ (0x28 ≤ op ∧ op ≤ 0x2F) ∨ (0x37 ≤ op ∧ op ≤ 0x3F) ∨
  (0x53 ≤ op ∧ op ≤ 0xFF)

/-! ### The spec's own definitions of computed values -/

/-- Some t squares to a: the first half of `is_square` (00_scope R15). -/
def HasRoot (a : Fe) : Prop := ∃ t, mulp t t = a

/-- (x, ok) is what 41_field R153 returns for num and den. -/
def IsSqrtRatio (num den x : Fe) (ok : Bool) : Prop :=
  (den = feZero → x = feZero ∧ (ok = true ↔ num = feZero)) ∧
  (den ≠ feZero → HasRoot (divp num den) → ok = true ∧ mulp x x = divp num den ∧ x.val % 2 = 0) ∧
  (den ≠ feZero → ¬ HasRoot (divp num den) → ok = false ∧ x = feZero)

/-- (Q, ok) is what 42_group R182 decodes from the integer v of 32 bytes. -/
def IsDecoded (v : Nat) (Q : Point) (ok : Bool) : Prop :=
  let y := Fe.ofNat (v % 2 ^ 255)
  ((∃ x, onCurve x y = true) →
    ok = true ∧ OnE Q ∧ Q.y = y ∧ (Q.x = feZero ∨ (Q.x.val % 2 = 1 ↔ v.testBit 255 = true))) ∧
  ((¬ ∃ x, onCurve x y = true) → ok = false ∧ Q = neutral)

/-- The 32-byte string v is canonical: y < p, and the sign bit is 0 where the decoded x is 0 (42_group R182). -/
def CanonicalCompressed (v : Nat) : Prop :=
  v < 2 ^ 256 ∧ v % 2 ^ 255 < Config.p ∧ (decodePoint v).2 = true ∧
  ((decodePoint v).1.x = feZero → v.testBit 255 = false)

/-- u is what 44_hash_to_point R250 maps r to: u1·(1 + 2r²) = −A_M, and u is u1 if u1³ + A_M·u1² + u1 has a root, else
−A_M − u1. -/
def IsElligator (r u : Fe) : Prop :=
  ∃ u1, mulp u1 (addp feOne (mulp (Fe.ofNat 2) (mulp r r))) = negp montCoeff ∧
    (HasRoot (montRhs u1) → u = u1) ∧ (¬ HasRoot (montRhs u1) → u = subp (negp montCoeff) u1)

/-- (Q, ok) is what 44_hash_to_point R251 converts u to: y·(u + 1) = u − 1, x²·(u² + A_M·u + 1) = −(A_M + 2)·u, and x has
the parity of the sign unless it is 0. -/
def IsConverted (u : Fe) (sign : Bool) (Q : Point) (ok : Bool) : Prop :=
  (HasRoot (montRhs u) → ok = true ∧ addp u feOne ≠ feZero ∧ montQuadratic u ≠ feZero ∧
    mulp Q.y (addp u feOne) = subp u feOne ∧
    mulp (mulp Q.x Q.x) (montQuadratic u) = mulp (negp (Fe.ofNat (Config.montA + 2))) u ∧
    (Q.x = feZero ∨ (Q.x.val % 2 = 1 ↔ sign = true))) ∧
  (¬ HasRoot (montRhs u) → ok = false ∧ Q = neutral)

/-! ### Runs -/

/-- The state after k steps, as Host.Core runs the machine. -/
def runSteps (k : Nat) (s : State) : Host.Outcome State Fault Refusal := Sys2Proof.core.run k s

/-- Two states that agree on everything but register contents, DMEM contents and the value last read by the host. -/
def SameControl (s t : State) : Prop :=
  t.pc = s.pc ∧ t.imem = s.imem ∧ t.abortReq = s.abortReq ∧ t.ie = s.ie ∧ t.busy = s.busy ∧ t.done = s.done ∧
  t.fault = s.fault ∧ t.herr = s.herr ∧ t.startPc = s.startPc ∧ SameRecord s t ∧ t.schedule = s.schedule ∧
  t.draws = s.draws

end Sys2Proof.Machine
end

