-- ==== Sys2Proof/Certificates/Slice0/Obligations.lean ====
section
/-! DEFINITION. The statements for the provers. The terms they use (legal states, frames, encodings, and the spec's own
definitions of computed values) are in Sys2Proof/Safety.lean. -/

open Sys2Proof Sys2Proof.Machine

/-- For every well-formed instruction i of VXC-1, with every operand at every value its field admits, decode (encode i) is i. -/
def Obligations.DecodeOfEncodeIsTheInstruction : Prop :=
  ∀ i : Instr, i.wellFormed = true → decode (encode i) = .instr i

/-- For every 32-bit word w and instruction i, if decode w is i then i is well-formed and encode i is w: no bit of a command word is dropped and each command has one word. -/
def Obligations.EncodeOfDecodeIsTheWord : Prop :=
  ∀ (w : Word) (i : Instr), decode w = .instr i → i.wellFormed = true ∧ encode i = w

/-- For each row of the opcode map: a word with its opcode decodes to the command of its operand fields if (w AND mask) = match, and to ILLEGAL_FIELD otherwise; a word whose opcode is in none of the 58 rows decodes to ILLEGAL_OPCODE. -/
def Obligations.DecoderFollowsTheOpcodeMap : Prop :=
  EncodedBy 0xffffffff#32 0x00000000#32 (fun _ => .nop) ∧
  EncodedBy 0xffffffff#32 0x00000001#32 (fun _ => .halt) ∧
  EncodedBy 0xffffffff#32 0x00000002#32 (fun _ => .clrall) ∧
  EncodedBy 0x0fffefff#32 0x00000008#32 (fun w => .cset (fieldK w) (fieldBit w)) ∧
  EncodedBy 0x0fff0fff#32 0x00000009#32 (fun w => .ccpy (fieldK w) (fieldA w)) ∧
  EncodedBy 0x0fff0fff#32 0x0000000a#32 (fun w => .cnot (fieldK w) (fieldA w)) ∧
  EncodedBy 0x0ff00fff#32 0x0000000b#32 (fun w => .cand (fieldK w) (fieldA w) (fieldB w)) ∧
  EncodedBy 0x0ff00fff#32 0x0000000c#32 (fun w => .cor (fieldK w) (fieldA w) (fieldB w)) ∧
  EncodedBy 0x0ff00fff#32 0x0000000d#32 (fun w => .cxor (fieldK w) (fieldA w) (fieldB w)) ∧
  EncodedBy 0xffff00ff#32 0x00000010#32 (fun w => .feMov (fieldD w) (fieldA w)) ∧
  EncodedBy 0x000000ff#32 0x00000011#32 (fun w => .feLdi (fieldD w) (fieldImm20 w)) ∧
  EncodedBy 0xfff000ff#32 0x00000012#32 (fun w => .feAdd (fieldD w) (fieldA w) (fieldB w)) ∧
  EncodedBy 0xfff000ff#32 0x00000013#32 (fun w => .feSub (fieldD w) (fieldA w) (fieldB w)) ∧
  EncodedBy 0xffff00ff#32 0x00000014#32 (fun w => .feNeg (fieldD w) (fieldA w)) ∧
  EncodedBy 0xfff000ff#32 0x00000015#32 (fun w => .feMul (fieldD w) (fieldA w) (fieldB w)) ∧
  EncodedBy 0xffff00ff#32 0x00000016#32 (fun w => .feSq (fieldD w) (fieldA w)) ∧
  EncodedBy 0xffff00ff#32 0x00000017#32 (fun w => .feSq2 (fieldD w) (fieldA w)) ∧
  EncodedBy 0xffff00ff#32 0x00000018#32 (fun w => .feInv (fieldD w) (fieldA w)) ∧
  EncodedBy 0xffff00ff#32 0x00000019#32 (fun w => .fePow22523 (fieldD w) (fieldA w)) ∧
  EncodedBy 0x0ff000ff#32 0x0000001a#32 (fun w => .feSqrtr (fieldD w) (fieldK w) (fieldA w) (fieldB w)) ∧
  EncodedBy 0x0fff0fff#32 0x0000001b#32 (fun w => .feIsneg (fieldK w) (fieldA w)) ∧
  EncodedBy 0x0fff0fff#32 0x0000001c#32 (fun w => .feIszero (fieldK w) (fieldA w)) ∧
  EncodedBy 0x0fff00ff#32 0x0000001d#32 (fun w => .feCmov (fieldD w) (fieldA w) (fieldK w)) ∧
  EncodedBy 0x0fff00ff#32 0x0000001e#32 (fun w => .feCswap (fieldD w) (fieldA w) (fieldK w)) ∧
  EncodedBy 0xff00f0ff#32 0x00000020#32 (fun w => .feLd (fieldD w) (fieldSlot w)) ∧
  EncodedBy 0xff00f0ff#32 0x00000021#32 (fun w => .feSt (fieldSlot w) (fieldD w)) ∧
  EncodedBy 0xff00f0ff#32 0x00000022#32 (fun w => .scLd (fieldD w) (fieldSlot w)) ∧
  EncodedBy 0xff00f0ff#32 0x00000023#32 (fun w => .scSt (fieldSlot w) (fieldD w)) ∧
  EncodedBy 0x0f00f0ff#32 0x00000024#32 (fun w => .ptDec (fieldD w) (fieldK w) (fieldSlot w)) ∧
  EncodedBy 0xff00f0ff#32 0x00000025#32 (fun w => .ptEnc (fieldSlot w) (fieldD w)) ∧
  EncodedBy 0xff00ffff#32 0x00000026#32 (fun w => .cLd (fieldSlot w)) ∧
  EncodedBy 0xff00ffff#32 0x00000027#32 (fun w => .cSt (fieldSlot w)) ∧
  EncodedBy 0xffff00ff#32 0x00000030#32 (fun w => .scMov (fieldD w) (fieldA w)) ∧
  EncodedBy 0x000000ff#32 0x00000031#32 (fun w => .scLdi (fieldD w) (fieldImm20 w)) ∧
  EncodedBy 0xfff000ff#32 0x00000032#32 (fun w => .scReduce (fieldD w) (fieldA w) (fieldB w)) ∧
  EncodedBy 0xff0000ff#32 0x00000033#32 (fun w => .scMuladd (fieldD w) (fieldA w) (fieldB w) (fieldC w)) ∧
  EncodedBy 0xffff00ff#32 0x00000034#32 (fun w => .scClamp (fieldD w) (fieldA w)) ∧
  EncodedBy 0x0fff00ff#32 0x00000035#32 (fun w => .scCmov (fieldD w) (fieldA w) (fieldK w)) ∧
  EncodedBy 0x0fff0fff#32 0x00000036#32 (fun w => .scIscanon (fieldK w) (fieldA w)) ∧
  EncodedBy 0xffff00ff#32 0x00000040#32 (fun w => .ptMov (fieldD w) (fieldA w)) ∧
  EncodedBy 0xfffff0ff#32 0x00000041#32 (fun w => .ptId (fieldD w)) ∧
  EncodedBy 0xfffff0ff#32 0x00000042#32 (fun w => .ptBase (fieldD w)) ∧
  EncodedBy 0xfff000ff#32 0x00000043#32 (fun w => .ptAdd (fieldD w) (fieldA w) (fieldB w)) ∧
  EncodedBy 0xffff00ff#32 0x00000044#32 (fun w => .ptDbl (fieldD w) (fieldA w)) ∧
  EncodedBy 0xffff00ff#32 0x00000045#32 (fun w => .ptNeg (fieldD w) (fieldA w)) ∧
  EncodedBy 0xffff00ff#32 0x00000046#32 (fun w => .ptMul8 (fieldD w) (fieldA w)) ∧
  EncodedBy 0x0fff00ff#32 0x00000047#32 (fun w => .ptCmov (fieldD w) (fieldA w) (fieldK w)) ∧
  EncodedBy 0x0fff0fff#32 0x00000048#32 (fun w => .ptIsid (fieldK w) (fieldA w)) ∧
  EncodedBy 0xfff0f0ff#32 0x00000049#32 (fun w => .ptSmulb (fieldD w) (fieldB w)) ∧
  EncodedBy 0xfff000ff#32 0x0000004a#32 (fun w => .ptSmul (fieldD w) (fieldA w) (fieldB w)) ∧
  EncodedBy 0xff0000ff#32 0x0000004b#32 (fun w => .ptDsmul (fieldD w) (fieldA w) (fieldB w) (fieldC w)) ∧
  EncodedBy 0x0ff000ff#32 0x0000004c#32 (fun w => .ptLdaff (fieldD w) (fieldK w) (fieldA w) (fieldB w)) ∧
  EncodedBy 0x0f0000ff#32 0x0000004d#32 (fun w => .ptLdproj (fieldD w) (fieldK w) (fieldA w) (fieldB w) (fieldC w)) ∧
  EncodedBy 0x000000ff#32 0x0000004e#32 (fun w => .ptLdext (fieldD w) (fieldK w) (fieldA w) (fieldB w) (fieldC w) (fieldE w)) ∧
  EncodedBy 0xfff000ff#32 0x0000004f#32 (fun w => .ptStaff (fieldD w) (fieldA w) (fieldB w)) ∧
  EncodedBy 0xffff00ff#32 0x00000050#32 (fun w => .h2pEll2 (fieldD w) (fieldA w)) ∧
  EncodedBy 0x0ff000ff#32 0x00000051#32 (fun w => .h2pM2e (fieldD w) (fieldK w) (fieldA w) (fieldB w)) ∧
  EncodedBy 0xfff000ff#32 0x00000052#32 (fun w => .h2p (fieldD w) (fieldA w) (fieldB w)) ∧
  (∀ w, opOf w ∉ [0x00#8, 0x01#8, 0x02#8, 0x08#8, 0x09#8, 0x0a#8, 0x0b#8, 0x0c#8, 0x0d#8, 0x10#8, 0x11#8, 0x12#8, 0x13#8, 0x14#8, 0x15#8, 0x16#8, 0x17#8, 0x18#8, 0x19#8, 0x1a#8, 0x1b#8, 0x1c#8, 0x1d#8, 0x1e#8, 0x20#8, 0x21#8, 0x22#8, 0x23#8, 0x24#8, 0x25#8, 0x26#8, 0x27#8, 0x30#8, 0x31#8, 0x32#8, 0x33#8, 0x34#8, 0x35#8, 0x36#8, 0x40#8, 0x41#8, 0x42#8, 0x43#8, 0x44#8, 0x45#8, 0x46#8, 0x47#8, 0x48#8, 0x49#8, 0x4a#8, 0x4b#8, 0x4c#8, 0x4d#8, 0x4e#8, 0x4f#8, 0x50#8, 0x51#8, 0x52#8] → decode w = .illegalOpcode)

/-- For every word w, decode w is ILLEGAL_OPCODE if and only if bits 7:0 of w are one of 0x03 to 0x07, 0x0E, 0x0F, 0x1F, 0x28 to 0x2F, 0x37 to 0x3F, 0x53 to 0xFF. -/
def Obligations.UnassignedOpcodesAreTheOnlyIllegalOnes : Prop :=
  ∀ w : Word, decode w = .illegalOpcode ↔ unassignedOpcode (opOf w).toNat

/-- Each of the twelve words of 30_encoding R99 decodes to the command, or the refusal, of its row, from the word itself and from its four bytes in address order. -/
def Obligations.WorkedEncodingsDecode : Prop :=
  let rows : List (Word × List Byte × Decoded) := [
    (0x00021312#32, [0x12#8, 0x13#8, 0x02#8, 0x00#8], .instr (.feAdd 3 1 2)),
    (0x76D06411#32, [0x11#8, 0x64#8, 0xD0#8, 0x76#8], .instr (.feLdi 4 486662)),
    (0x1003201A#32, [0x1A#8, 0x20#8, 0x03#8, 0x10#8], .instr (.feSqrtr 0 1 2 3)),
    (0x50070224#32, [0x24#8, 0x02#8, 0x07#8, 0x50#8], .instr (.ptDec 2 5 7)),
    (0x00010225#32, [0x25#8, 0x02#8, 0x01#8, 0x00#8], .instr (.ptEnc 1 2)),
    (0x30001008#32, [0x08#8, 0x10#8, 0x00#8, 0x30#8], .instr (.cset 3 1)),
    (0x0032104B#32, [0x4B#8, 0x10#8, 0x32#8, 0x00#8], .instr (.ptDsmul 0 1 2 3)),
    (0x2654314E#32, [0x4E#8, 0x31#8, 0x54#8, 0x26#8], .instr (.ptLdext 1 2 3 4 5 6)),
    (0x00000001#32, [0x01#8, 0x00#8, 0x00#8, 0x00#8], .instr .halt),
    (0x00000112#32, [0x12#8, 0x01#8, 0x00#8, 0x00#8], .instr (.feAdd 1 0 0)),
    (0x10000112#32, [0x12#8, 0x01#8, 0x00#8, 0x10#8], .illegalField),
    (0x00000003#32, [0x03#8, 0x00#8, 0x00#8, 0x00#8], .illegalOpcode)]
  ∀ r ∈ rows, decode r.1 = r.2.2 ∧ decodeBytes r.2.1 = some (r.2.2, [])

/-- In a state where the engine is to move (an empty schedule, or an engine event at its head, which the step removes), BUSY is 1, abort_req is 0 and pc is a multiple of 4 below 4096: if the little-endian word of the four IMEM bytes from pc decodes to the instruction i, then i is well-formed and step answers exactly what exec of i answers in the state with that event removed. -/
def Obligations.StepRunsTheDecodedCommand : Prop :=
  ∀ (s : State) (rest : List Event) (i : Instr),
    (s.schedule = [] ∧ rest = [] ∨ s.schedule = .engine :: rest) →
    s.busy = true → s.abortReq = false → s.pc.toNat % 4 = 0 → s.pc.toNat < 4096 →
    decode (BitVec.ofNat 32 ((s.imem.read s.pc.toNat).toNat + 2 ^ 8 * (s.imem.read (s.pc.toNat + 1)).toNat +
      2 ^ 16 * (s.imem.read (s.pc.toNat + 2)).toNat + 2 ^ 24 * (s.imem.read (s.pc.toNat + 3)).toNat)) = .instr i →
    i.wellFormed = true ∧ step s = exec i { s with schedule := rest }

/-- If BUSY is 0, a step with an empty schedule answers the same state, and a step whose next event is the engine answers the state with only that event removed: the engine begins only on a host START. That the turn of an idle engine is a next state is the model's reading (log entry 3). -/
def Obligations.IdleEngineChangesNothing : Prop :=
  ∀ (s : State) (rest : List Event), s.busy = false →
    (s.schedule = [] → step s = .next s) ∧
    (s.schedule = .engine :: rest → step s = .next { s with schedule := rest })

/-- When the running engine is to move: with abort_req set the step takes ABORTED; else at pc = 4096 it takes FETCH_RANGE; else at a legal pc a word whose bits 7:0 are one of the 198 unassigned opcodes is taken as ILLEGAL_OPCODE, and a word that decodes to ILLEGAL_FIELD as that. Taking one records the cause, the pc, and the word (0 when nothing was fetched), clears BUSY, sets FAULT, leaves pc, every register, both memories and the other host-port state as they were, and makes irq equal to CTRL.IE. Nothing is said of abort_req after ABORTED. -/
def Obligations.EngineFaultsAreRecordedInOrder : Prop :=
  ∀ (s : State) (rest : List Event), (s.schedule = [] ∧ rest = [] ∨ s.schedule = .engine :: rest) → s.busy = true →
    let taken (cause : FaultCause) (word : Word) (t : State) : Prop :=
      t.faultCause = cause ∧ t.faultPc = s.pc ∧ t.faultInsn = word ∧ t.busy = false ∧ t.fault = true ∧ t.pc = s.pc ∧
      SameRegisters s t ∧ SameImem s t ∧ SameDmem s t ∧ t.ie = s.ie ∧ t.done = s.done ∧ t.herr = s.herr ∧
      t.startPc = s.startPc ∧ (s.abortReq = false → t.abortReq = false) ∧ t.schedule = rest ∧ t.readData = s.readData ∧ t.draws = s.draws ∧
      t.irq = s.ie
    (s.abortReq = true → ∃ t, step s = .next t ∧ taken .aborted 0#32 t) ∧
    (s.abortReq = false → s.pc = 4096#13 → ∃ t, step s = .next t ∧ taken .fetchRange 0#32 t) ∧
    (s.abortReq = false → isCommandAddress s.pc = true → unassignedOpcode (opOf s.fetchedWord).toNat →
      ∃ t, step s = .next t ∧ taken .illegalOpcode s.fetchedWord t) ∧
    (s.abortReq = false → isCommandAddress s.pc = true → decode s.fetchedWord = .illegalField →
      ∃ t, step s = .next t ∧ taken .illegalField s.fetchedWord t)

/-- For every legal state with BUSY 1 and an empty schedule there is a k of at most 1025 for which k steps answer a next state with BUSY 0, and in it DONE or FAULT is 1: a run always ends, by HALT or by a fault. That a run always ends is the spec's own inference, marked so in 70_reset R310. -/
def Obligations.RunEndsWithin1025Steps : Prop :=
  ∀ s : State, s.Legal → s.busy = true → s.schedule = [] →
    ∃ k, k ≤ 1025 ∧ ∃ t, runSteps k s = .next t ∧ t.busy = false ∧ (t.done = true ∨ t.fault = true)

/-- For every legal state s, if step s answers next t then t is legal: both memories keep their canonical form, pc stays a multiple of 4 of at most 4096, DONE, FAULT and BUSY exclude each other, abort_req is set only during a run, and the fault record says what 10_state R31, R32 and 60_exceptions R271 to R274 say of it. That abort_req is 1 only during a run rests on the model's reading that taking ABORTED clears it (log entry 7: 10_state R36 against 60_exceptions R272), not on a rule alone. -/
def Obligations.StepKeepsTheMachineLegal : Prop :=
  ∀ s t : State, s.Legal → step s = .next t → t.Legal

/-- For every state whose sixteen point registers all hold points of E, if step answers next t then the sixteen point registers of t all hold points of E, whatever command, host access or reset the step was. -/
def Obligations.StepKeepsPointsOnTheCurve : Prop :=
  ∀ s t : State, s.PointsOnE → step s = .next t → t.PointsOnE

/-- For every legal state s, step s answers a next state: no fault of the model and no refusal is reachable from a legal state. -/
def Obligations.LegalStatesAlwaysStep : Prop :=
  ∀ s : State, s.Legal → ∃ t, step s = .next t

/-- For every canonical contents of IMEM and DMEM (the parameter mem_init) the state after the power-on reset is legal and every point register is on E; State.reset, whose memories list nothing (log entry 1), is one of them. -/
def Obligations.ResetStateIsLegal : Prop :=
  (∀ imem dmem : Memory, imem.wf Config.imemBytes = true → dmem.wf Config.dmemBytes = true →
    (State.powerOn imem dmem).Legal ∧ (State.powerOn imem dmem).PointsOnE) ∧
  State.reset.Legal ∧ State.reset.PointsOnE

/-- For every contents of the memories, after the power-on reset every field and scalar register is 0, every point register is (0, 1), every condition is 0, pc, abort_req, CTRL.IE, STATUS, START_PC and the fault record are 0, irq is 0, the ID register reads 0x25519007, IMEM and DMEM hold those contents, and the engine's step never makes BUSY 1; State.reset is such a state. -/
def Obligations.ResetLeavesTheStatedValues : Prop :=
  (∀ imem dmem : Memory,
    let s := State.powerOn imem dmem
    (∀ i, (s.getF i).val = 0) ∧ (∀ i, (s.getS i).toNat = 0) ∧ (∀ i, (s.getP i).x.val = 0 ∧ (s.getP i).y.val = 1) ∧
    (∀ i, s.getC i = false) ∧ s.pc = 0#13 ∧ s.abortReq = false ∧ s.ctrlWord = 0#32 ∧ s.statusWord = 0#32 ∧
    s.startAddress = 0#13 ∧ causeCode s.faultCause = 0 ∧ s.faultPc = 0#13 ∧ s.faultInsn = 0#32 ∧ s.irq = false ∧
    s.registerWord 0x301C = 0x25519007#32 ∧ s.imem = imem ∧ s.dmem = dmem ∧
    (∀ t, s.engineStep = .next t → t.busy = false)) ∧
  ∃ imem dmem, State.reset = State.powerOn imem dmem

/-- If exec of i answers next t: for i other than HALT, t.pc is s.pc + 4, with no wrap when s.pc is at most 4092; for HALT, t.pc is s.pc. And a state in which the engine has taken any fault has the pc it had. -/
def Obligations.PcAdvancesByFourOrStays : Prop :=
  (∀ (i : Instr) (s t : State), i ≠ .halt → exec i s = .next t →
    t.pc = s.pc + 4#13 ∧ (s.pc.toNat ≤ 4092 → t.pc.toNat = s.pc.toNat + 4)) ∧
  (∀ s t : State, exec .halt s = .next t → t.pc = s.pc) ∧
  (∀ (s t : State), s.engineStep = .next t → s.fault = false → t.fault = true → t.pc = s.pc ∧ t.faultPc = s.pc)

/-- If exec of i answers next t: the field registers are unchanged unless i is one of R24's writers of F, and likewise the scalar, point and condition registers; so no command sets a condition as a side effect. -/
def Obligations.CommandsWriteOnlyTheirFiles : Prop :=
  ∀ (i : Instr) (s t : State), exec i s = .next t →
    (match i with
      | .feMov _ _ | .feLdi _ _ | .feLd _ _ | .feAdd _ _ _ | .feSub _ _ _ | .feNeg _ _ | .feMul _ _ _ | .feSq _ _ | .feSq2 _ _ | .feInv _ _ | .fePow22523 _ _ | .feSqrtr _ _ _ _ | .feCmov _ _ _ | .feCswap _ _ _ | .ptStaff _ _ _ | .h2pEll2 _ _ | .clrall => True
      | _ => SameF s t []) ∧
    (match i with
      | .scMov _ _ | .scLdi _ _ | .scLd _ _ | .scReduce _ _ _ | .scMuladd _ _ _ _ | .scClamp _ _ | .scCmov _ _ _ | .clrall => True
      | _ => SameS s t []) ∧
    (match i with
      | .ptMov _ _ | .ptId _ | .ptBase _ | .ptAdd _ _ _ | .ptDbl _ _ | .ptNeg _ _ | .ptMul8 _ _ | .ptCmov _ _ _ | .ptSmulb _ _ | .ptSmul _ _ _ | .ptDsmul _ _ _ _ | .ptLdaff _ _ _ _ | .ptLdproj _ _ _ _ _ | .ptLdext _ _ _ _ _ _ | .ptDec _ _ _ | .h2pM2e _ _ _ _ | .h2p _ _ _ | .clrall => True
      | _ => SameP s t []) ∧
    (match i with
      | .cset _ _ | .ccpy _ _ | .cnot _ _ | .cand _ _ _ | .cor _ _ _ | .cxor _ _ _ | .cLd _ | .feSqrtr _ _ _ _ | .feIsneg _ _ | .feIszero _ _ | .scIscanon _ _ | .ptIsid _ _ | .ptDec _ _ _ | .ptLdaff _ _ _ _ | .ptLdproj _ _ _ _ _ | .ptLdext _ _ _ _ _ _ | .h2pM2e _ _ _ _ | .clrall => True
      | _ => SameC s t [])

/-- For every command, state and memory m: exec of the command in the state with IMEM replaced by m answers what it answers in the state, with IMEM replaced by m; so IMEM has no influence on a command and no command changes it. -/
def Obligations.CommandsNeitherReadNorWriteImem : Prop :=
  ∀ (i : Instr) (s : State) (m : Memory), ∃ t, exec i s = .next t ∧ t.imem = s.imem ∧
    exec i { s with imem := m } = .next { t with imem := m }

/-- If exec of i answers next t: when i is a store to slot n (FE_ST, SC_ST, PT_ENC, C_ST), every byte outside bytes 32·n to 32·n + 31 reads as before; when i is any other command, every byte of DMEM reads as before and DMEM is the same data. -/
def Obligations.OnlySlotStoresChangeDmem : Prop :=
  ∀ (i : Instr) (s t : State), exec i s = .next t →
    match i with
    | .feSt n _ => SameDmemOutside s t n
    | .scSt n _ => SameDmemOutside s t n
    | .ptEnc n _ => SameDmemOutside s t n
    | .cSt n => SameDmemOutside s t n
    | _ => SameDmem s t ∧ t.dmem = s.dmem

/-- Two states that agree on everything but register contents, DMEM contents and the value last read by the host take, for every number of steps and any schedule of host accesses and resets, either both a next state, and the two still agree in that way, or the same fault: no command's execution path depends on data. -/
def Obligations.ControlFlowIsIndependentOfData : Prop :=
  ∀ (k : Nat) (s s' : State), SameControl s s' →
    (∃ t t', runSteps k s = .next t ∧ runSteps k s' = .next t' ∧ SameControl t t') ∨
    (∃ r, runSteps k s = .fault r ∧ runSteps k s' = .fault r)

/-- NOP, word 0x00000000, answers a next state with pc moved by 4 and every register, both memories and all host-port state unchanged; a word with opcode 0 and another bit set is ILLEGAL_FIELD. -/
def Obligations.NopOnlyAdvances : Prop :=
  EncodedBy 0xffffffff#32 0x00000000#32 (fun _ => .nop) ∧
  (∀ s : State, ∃ t, exec .nop s = .next t ∧ t.pc = s.pc + 4#13 ∧ Frame s t [] [] [] [])

/-- HALT answers a next state with BUSY 0, DONE 1 and pc unchanged; registers, memories and the other host-port state are unchanged, and irq is then 1 if CTRL.IE is 1. A word with opcode 1 and another bit set is ILLEGAL_FIELD. -/
def Obligations.HaltEndsTheRun : Prop :=
  EncodedBy 0xffffffff#32 0x00000001#32 (fun _ => .halt) ∧
  (∀ s : State, ∃ t, exec .halt s = .next t ∧ t.busy = false ∧ t.done = true ∧ t.pc = s.pc ∧
    SameRegisters s t ∧ SameImem s t ∧ SameDmem s t ∧ SameHost s t ∧ (s.ie = true → t.irq = true))

/-- CLRALL answers a next state in which every field, scalar and condition register is 0 and every point register is (0, 1); memories and host-port state are unchanged and pc moves by 4. The register files then equal those of the reset state. A word with opcode 2 and another bit set is ILLEGAL_FIELD. -/
def Obligations.ClrallResetsTheRegisterFiles : Prop :=
  EncodedBy 0xffffffff#32 0x00000002#32 (fun _ => .clrall) ∧
  (∀ s : State, ∃ t, exec .clrall s = .next t ∧ t.pc = s.pc + 4#13 ∧
    (∀ i, (t.getF i).val = 0) ∧ (∀ i, (t.getS i).toNat = 0) ∧ (∀ i, (t.getP i).x.val = 0 ∧ (t.getP i).y.val = 1) ∧
    (∀ i, t.getC i = false) ∧ SameRegisters State.reset t ∧ SameImem s t ∧ SameDmem s t ∧ SameRun s t ∧ SameHost s t)

/-- Each of the six condition commands decodes by its mask and fields and answers a next state in which C[k] is, of the values before the command: the immediate bit, C[a], 1 − C[a], C[a] AND C[b], C[a] OR C[b], C[a] XOR C[b]; every other register, memory and host-port state is unchanged and pc moves by 4. -/
def Obligations.ConditionCommands : Prop :=
  -- CSET
  EncodedBy 0x0fffefff#32 0x00000008#32 (fun w => .cset (fieldK w) (fieldBit w)) ∧
  (∀ (k : CReg) (imm : Nat) (s : State), ∃ t, exec (.cset k imm) s = .next t ∧ t.pc = s.pc + 4#13 ∧
    (imm < 2 → (t.getC k).toNat = imm) ∧
    Frame s t [] [] [] [k]) ∧
  -- CCPY
  EncodedBy 0x0fff0fff#32 0x00000009#32 (fun w => .ccpy (fieldK w) (fieldA w)) ∧
  (∀ (k a : CReg) (s : State), ∃ t, exec (.ccpy k a) s = .next t ∧ t.pc = s.pc + 4#13 ∧
    t.getC k = s.getC a ∧
    Frame s t [] [] [] [k]) ∧
  -- CNOT
  EncodedBy 0x0fff0fff#32 0x0000000a#32 (fun w => .cnot (fieldK w) (fieldA w)) ∧
  (∀ (k a : CReg) (s : State), ∃ t, exec (.cnot k a) s = .next t ∧ t.pc = s.pc + 4#13 ∧
    (t.getC k).toNat = 1 - (s.getC a).toNat ∧
    Frame s t [] [] [] [k]) ∧
  -- CAND
  EncodedBy 0x0ff00fff#32 0x0000000b#32 (fun w => .cand (fieldK w) (fieldA w) (fieldB w)) ∧
  (∀ (k a b : CReg) (s : State), ∃ t, exec (.cand k a b) s = .next t ∧ t.pc = s.pc + 4#13 ∧
    (t.getC k = true ↔ s.getC a = true ∧ s.getC b = true) ∧
    Frame s t [] [] [] [k]) ∧
  -- COR
  EncodedBy 0x0ff00fff#32 0x0000000c#32 (fun w => .cor (fieldK w) (fieldA w) (fieldB w)) ∧
  (∀ (k a b : CReg) (s : State), ∃ t, exec (.cor k a b) s = .next t ∧ t.pc = s.pc + 4#13 ∧
    (t.getC k = true ↔ s.getC a = true ∨ s.getC b = true) ∧
    Frame s t [] [] [] [k]) ∧
  -- CXOR
  EncodedBy 0x0ff00fff#32 0x0000000d#32 (fun w => .cxor (fieldK w) (fieldA w) (fieldB w)) ∧
  (∀ (k a b : CReg) (s : State), ∃ t, exec (.cxor k a b) s = .next t ∧ t.pc = s.pc + 4#13 ∧
    (t.getC k = true ↔ s.getC a ≠ s.getC b) ∧
    Frame s t [] [] [] [k])

/-- C_LD answers a next state in which C[i] is bit i of the slot's little-endian integer for i from 0 to 15, and nothing else but pc changed. C_ST, in a state whose DMEM is canonical, answers a next state whose slot has bit i equal to C[i] for i from 0 to 15 and every higher bit 0; every byte outside the slot, every register and all host-port state is unchanged. -/
def Obligations.ConditionTransfers : Prop :=
  EncodedBy 0xff00ffff#32 0x00000026#32 (fun w => .cLd (fieldSlot w)) ∧
  (∀ (slot : Slot) (s : State), ∃ t, exec (.cLd slot) s = .next t ∧ t.pc = s.pc + 4#13 ∧
    (∀ i : CReg, t.getC i = (s.readSlot slot).testBit i.val) ∧
    Frame s t [] [] [] [0, 1, 2, 3, 4, 5, 6, 7, 8, 9, 10, 11, 12, 13, 14, 15]) ∧
  EncodedBy 0xff00ffff#32 0x00000027#32 (fun w => .cSt (fieldSlot w)) ∧
  (∀ (slot : Slot) (s : State), s.dmem.wf Config.dmemBytes = true → ∃ t, exec (.cSt slot) s = .next t ∧
    t.pc = s.pc + 4#13 ∧ (∀ i : CReg, (t.readSlot slot).testBit i.val = s.getC i) ∧ t.readSlot slot < 2 ^ 16 ∧
    StoreFrame s t slot)

/-- FE_MOV and FE_LDI decode by their masks and fields and answer next states in which F[d] is F[a], respectively the immediate (for every immediate the encoding holds); nothing else but pc changed. -/
def Obligations.FieldMoves : Prop :=
  -- FE_MOV
  EncodedBy 0xffff00ff#32 0x00000010#32 (fun w => .feMov (fieldD w) (fieldA w)) ∧
  (∀ (d a : FReg) (s : State), ∃ t, exec (.feMov d a) s = .next t ∧ t.pc = s.pc + 4#13 ∧
    t.getF d = s.getF a ∧
    Frame s t [d] [] [] []) ∧
  -- FE_LDI
  EncodedBy 0x000000ff#32 0x00000011#32 (fun w => .feLdi (fieldD w) (fieldImm20 w)) ∧
  (∀ (d : FReg) (imm : Nat) (s : State), ∃ t, exec (.feLdi d imm) s = .next t ∧ t.pc = s.pc + 4#13 ∧
    (imm < 2 ^ 20 → (t.getF d).val = imm) ∧
    Frame s t [d] [] [] [])

/-- Each of the six commands decodes by its mask and fields and answers a next state in which F[d], as an integer, is the residue in [0, p) of F[a] + F[b], F[a] − F[b], −F[a], F[a]·F[b], F[a]² or 2·F[a]², all sources read before the write; nothing else but pc changed. -/
def Obligations.FieldRingCommands : Prop :=
  -- FE_ADD
  EncodedBy 0xfff000ff#32 0x00000012#32 (fun w => .feAdd (fieldD w) (fieldA w) (fieldB w)) ∧
  (∀ (d a b : FReg) (s : State), ∃ t, exec (.feAdd d a b) s = .next t ∧ t.pc = s.pc + 4#13 ∧
    (t.getF d).val = ((s.getF a).val + (s.getF b).val) % Config.p ∧
    Frame s t [d] [] [] []) ∧
  -- FE_SUB
  EncodedBy 0xfff000ff#32 0x00000013#32 (fun w => .feSub (fieldD w) (fieldA w) (fieldB w)) ∧
  (∀ (d a b : FReg) (s : State), ∃ t, exec (.feSub d a b) s = .next t ∧ t.pc = s.pc + 4#13 ∧
    ((t.getF d).val : Int) = (((s.getF a).val : Int) - ((s.getF b).val : Int)) % (Config.p : Int) ∧
    Frame s t [d] [] [] []) ∧
  -- FE_NEG
  EncodedBy 0xffff00ff#32 0x00000014#32 (fun w => .feNeg (fieldD w) (fieldA w)) ∧
  (∀ (d a : FReg) (s : State), ∃ t, exec (.feNeg d a) s = .next t ∧ t.pc = s.pc + 4#13 ∧
    ((t.getF d).val : Int) = (-((s.getF a).val : Int)) % (Config.p : Int) ∧
    Frame s t [d] [] [] []) ∧
  -- FE_MUL
  EncodedBy 0xfff000ff#32 0x00000015#32 (fun w => .feMul (fieldD w) (fieldA w) (fieldB w)) ∧
  (∀ (d a b : FReg) (s : State), ∃ t, exec (.feMul d a b) s = .next t ∧ t.pc = s.pc + 4#13 ∧
    (t.getF d).val = ((s.getF a).val * (s.getF b).val) % Config.p ∧
    Frame s t [d] [] [] []) ∧
  -- FE_SQ
  EncodedBy 0xffff00ff#32 0x00000016#32 (fun w => .feSq (fieldD w) (fieldA w)) ∧
  (∀ (d a : FReg) (s : State), ∃ t, exec (.feSq d a) s = .next t ∧ t.pc = s.pc + 4#13 ∧
    (t.getF d).val = (s.getF a).val ^ 2 % Config.p ∧
    Frame s t [d] [] [] []) ∧
  -- FE_SQ2
  EncodedBy 0xffff00ff#32 0x00000017#32 (fun w => .feSq2 (fieldD w) (fieldA w)) ∧
  (∀ (d a : FReg) (s : State), ∃ t, exec (.feSq2 d a) s = .next t ∧ t.pc = s.pc + 4#13 ∧
    (t.getF d).val = 2 * (s.getF a).val ^ 2 % Config.p ∧
    Frame s t [d] [] [] [])

/-- Both commands decode by their masks and fields. FE_INV answers a next state with F[d] = F[a]^(p−2) mod p, and F[a]·F[d] mod p = 1 where F[a] is not 0; FE_POW22523 answers one with F[d] = F[a]^((p−5)/8) mod p, where (p − 5)/8 = 2^252 − 3. Nothing else but pc changed. -/
def Obligations.FieldPowerCommands : Prop :=
  (Config.p - 5) / 8 = 2 ^ 252 - 3 ∧
  -- FE_INV
  EncodedBy 0xffff00ff#32 0x00000018#32 (fun w => .feInv (fieldD w) (fieldA w)) ∧
  (∀ (d a : FReg) (s : State), ∃ t, exec (.feInv d a) s = .next t ∧ t.pc = s.pc + 4#13 ∧
    (t.getF d).val = (s.getF a).val ^ (Config.p - 2) % Config.p ∧
    ((s.getF a).val ≠ 0 → (s.getF a).val * (t.getF d).val % Config.p = 1) ∧
    Frame s t [d] [] [] []) ∧
  -- FE_POW22523
  EncodedBy 0xffff00ff#32 0x00000019#32 (fun w => .fePow22523 (fieldD w) (fieldA w)) ∧
  (∀ (d a : FReg) (s : State), ∃ t, exec (.fePow22523 d a) s = .next t ∧ t.pc = s.pc + 4#13 ∧
    (t.getF d).val = (s.getF a).val ^ ((Config.p - 5) / 8) % Config.p ∧
    Frame s t [d] [] [] [])

/-- FE_SQRTR decodes by its mask and fields and answers a next state in which (F[d], C[k]) is sqrt_ratio(F[a], F[b]): for a zero denominator (0, whether the numerator is 0); else, if some t squares to the ratio, that t which is even, and ok 1; else (0, 0). A failed root is no fault; nothing else but pc changed. -/
def Obligations.FieldSquareRootCommand : Prop :=
  -- FE_SQRTR
  EncodedBy 0x0ff000ff#32 0x0000001a#32 (fun w => .feSqrtr (fieldD w) (fieldK w) (fieldA w) (fieldB w)) ∧
  (∀ (d : FReg) (k : CReg) (a b : FReg) (s : State), ∃ t, exec (.feSqrtr d k a b) s = .next t ∧ t.pc = s.pc + 4#13 ∧
    IsSqrtRatio (s.getF a) (s.getF b) (t.getF d) (t.getC k) ∧
    Frame s t [d] [] [] [k])

/-- For every numerator and denominator, the algorithm of R155 (r = v·u³·(v·u⁷)^((p−5)/8), then the two candidates and the parity) returns the same pair as the model's sqrt_ratio, a zero denominator included. -/
def Obligations.TwoCandidateRootAgrees : Prop :=
  ∀ num den : Fe, sqrtRatioTwoCandidates num den = sqrtRatio num den

/-- For every field element a, is_square(a), which the model computes by Euler's criterion (log entry 9), is 1 if and only if some t has t² = a modulo p. -/
def Obligations.IsSquareIsHavingARoot : Prop :=
  ∀ a : Fe, isSquare a = true ↔ HasRoot a

/-- Both commands decode by their masks and fields and answer next states in which C[k] is F[a] mod 2, respectively 1 exactly when F[a] is 0; nothing else but pc changed. -/
def Obligations.FieldPredicates : Prop :=
  -- FE_ISNEG
  EncodedBy 0x0fff0fff#32 0x0000001b#32 (fun w => .feIsneg (fieldK w) (fieldA w)) ∧
  (∀ (k : CReg) (a : FReg) (s : State), ∃ t, exec (.feIsneg k a) s = .next t ∧ t.pc = s.pc + 4#13 ∧
    (t.getC k).toNat = (s.getF a).val % 2 ∧
    Frame s t [] [] [] [k]) ∧
  -- FE_ISZERO
  EncodedBy 0x0fff0fff#32 0x0000001c#32 (fun w => .feIszero (fieldK w) (fieldA w)) ∧
  (∀ (k : CReg) (a : FReg) (s : State), ∃ t, exec (.feIszero k a) s = .next t ∧ t.pc = s.pc + 4#13 ∧
    (t.getC k = true ↔ (s.getF a).val = 0) ∧
    Frame s t [] [] [] [k])

/-- FE_CMOV answers a next state with F[d] = F[a] if C[k] is 1 and F[d] unchanged otherwise; FE_CSWAP answers one with F[d] and F[a] exchanged if C[k] is 1 and both unchanged otherwise, also when d = a. Both decode by their masks and fields; nothing else but pc changed. -/
def Obligations.FieldSelects : Prop :=
  -- FE_CMOV
  EncodedBy 0x0fff00ff#32 0x0000001d#32 (fun w => .feCmov (fieldD w) (fieldA w) (fieldK w)) ∧
  (∀ (d a : FReg) (k : CReg) (s : State), ∃ t, exec (.feCmov d a k) s = .next t ∧ t.pc = s.pc + 4#13 ∧
    t.getF d = (if s.getC k = true then s.getF a else s.getF d) ∧
    Frame s t [d] [] [] []) ∧
  -- FE_CSWAP
  EncodedBy 0x0fff00ff#32 0x0000001e#32 (fun w => .feCswap (fieldD w) (fieldA w) (fieldK w)) ∧
  (∀ (d a : FReg) (k : CReg) (s : State), ∃ t, exec (.feCswap d a k) s = .next t ∧ t.pc = s.pc + 4#13 ∧
    t.getF d = (if s.getC k = true then s.getF a else s.getF d) ∧
    t.getF a = (if s.getC k = true then s.getF d else s.getF a) ∧
    Frame s t [d, a] [] [] [])

/-- FE_LD answers a next state with F[d] = (v mod 2^255) mod p for the slot's little-endian integer v. FE_ST, in a state whose DMEM is canonical, answers one whose slot is F[d] (so bit 255 is 0), with every byte outside the slot, every register and all host-port state unchanged. Both decode by their masks and fields. -/
def Obligations.FieldSlotTransfers : Prop :=
  EncodedBy 0xff00f0ff#32 0x00000020#32 (fun w => .feLd (fieldD w) (fieldSlot w)) ∧
  (∀ (d : FReg) (slot : Slot) (s : State), ∃ t, exec (.feLd d slot) s = .next t ∧ t.pc = s.pc + 4#13 ∧
    (t.getF d).val = s.readSlot slot % 2 ^ 255 % Config.p ∧
    Frame s t [d] [] [] []) ∧
  EncodedBy 0xff00f0ff#32 0x00000021#32 (fun w => .feSt (fieldSlot w) (fieldD w)) ∧
  (∀ (slot : Slot) (d : FReg) (s : State), s.dmem.wf Config.dmemBytes = true → ∃ t, exec (.feSt slot d) s = .next t ∧
    t.pc = s.pc + 4#13 ∧ t.readSlot slot = (s.getF d).val ∧ (t.readSlot slot).testBit 255 = false ∧
    StoreFrame s t slot)

/-- SC_LD answers a next state with S[d] equal to the slot's little-endian integer, whatever it is. SC_ST, in a state whose DMEM is canonical, answers one whose slot is S[d], with every byte outside the slot, every register and all host-port state unchanged. Both decode by their masks and fields. -/
def Obligations.ScalarSlotTransfers : Prop :=
  EncodedBy 0xff00f0ff#32 0x00000022#32 (fun w => .scLd (fieldD w) (fieldSlot w)) ∧
  (∀ (d : SReg) (slot : Slot) (s : State), ∃ t, exec (.scLd d slot) s = .next t ∧ t.pc = s.pc + 4#13 ∧
    (t.getS d).toNat = s.readSlot slot ∧
    Frame s t [] [d] [] []) ∧
  EncodedBy 0xff00f0ff#32 0x00000023#32 (fun w => .scSt (fieldSlot w) (fieldD w)) ∧
  (∀ (slot : Slot) (d : SReg) (s : State), s.dmem.wf Config.dmemBytes = true → ∃ t, exec (.scSt slot d) s = .next t ∧
    t.pc = s.pc + 4#13 ∧ t.readSlot slot = (s.getS d).toNat ∧ StoreFrame s t slot)

/-- SC_MOV and SC_LDI decode by their masks and fields and answer next states in which S[d] is S[a], respectively the immediate (for every immediate the encoding holds); nothing else but pc changed. -/
def Obligations.ScalarMoves : Prop :=
  -- SC_MOV
  EncodedBy 0xffff00ff#32 0x00000030#32 (fun w => .scMov (fieldD w) (fieldA w)) ∧
  (∀ (d a : SReg) (s : State), ∃ t, exec (.scMov d a) s = .next t ∧ t.pc = s.pc + 4#13 ∧
    t.getS d = s.getS a ∧
    Frame s t [] [d] [] []) ∧
  -- SC_LDI
  EncodedBy 0x000000ff#32 0x00000031#32 (fun w => .scLdi (fieldD w) (fieldImm20 w)) ∧
  (∀ (d : SReg) (imm : Nat) (s : State), ∃ t, exec (.scLdi d imm) s = .next t ∧ t.pc = s.pc + 4#13 ∧
    (imm < 2 ^ 20 → (t.getS d).toNat = imm) ∧
    Frame s t [] [d] [] [])

/-- Both commands decode by their masks and fields and answer next states in which S[d] is the residue in [0, ℓ) of S[b]·2^256 + S[a], respectively of S[a]·S[b] + S[c], of the full 256-bit operands before the command; nothing else but pc changed. -/
def Obligations.ScalarReductions : Prop :=
  -- SC_REDUCE
  EncodedBy 0xfff000ff#32 0x00000032#32 (fun w => .scReduce (fieldD w) (fieldA w) (fieldB w)) ∧
  (∀ (d a b : SReg) (s : State), ∃ t, exec (.scReduce d a b) s = .next t ∧ t.pc = s.pc + 4#13 ∧
    (t.getS d).toNat = ((s.getS b).toNat * 2 ^ 256 + (s.getS a).toNat) % Config.ell ∧ (t.getS d).toNat < Config.ell ∧
    Frame s t [] [d] [] []) ∧
  -- SC_MULADD
  EncodedBy 0xff0000ff#32 0x00000033#32 (fun w => .scMuladd (fieldD w) (fieldA w) (fieldB w) (fieldC w)) ∧
  (∀ (d a b c : SReg) (s : State), ∃ t, exec (.scMuladd d a b c) s = .next t ∧ t.pc = s.pc + 4#13 ∧
    (t.getS d).toNat = ((s.getS a).toNat * (s.getS b).toNat + (s.getS c).toNat) % Config.ell ∧ (t.getS d).toNat < Config.ell ∧
    Frame s t [] [d] [] [])

/-- SC_CLAMP decodes by its mask and fields and answers a next state in which bit j of S[d] is 0 for j below 3 and j = 255, 1 for j = 254, and bit j of S[a] otherwise; so S[d] is a multiple of 8, at least 2^254, below 2^255 and no multiple of ℓ, and clamping it again changes nothing (that it is no multiple of ℓ is the spec's own inference in R236). Nothing else but pc changed. -/
def Obligations.ScalarClamp : Prop :=
  -- SC_CLAMP
  EncodedBy 0xffff00ff#32 0x00000034#32 (fun w => .scClamp (fieldD w) (fieldA w)) ∧
  (∀ (d a : SReg) (s : State), ∃ t, exec (.scClamp d a) s = .next t ∧ t.pc = s.pc + 4#13 ∧
    (∀ j < 256, (t.getS d).getLsbD j =
      (if j < 3 ∨ j = 255 then false else if j = 254 then true else (s.getS a).getLsbD j)) ∧
    8 ∣ (t.getS d).toNat ∧ 2 ^ 254 ≤ (t.getS d).toNat ∧ (t.getS d).toNat < 2 ^ 255 ∧ ¬ Config.ell ∣ (t.getS d).toNat ∧ clamp (t.getS d) = t.getS d ∧
    Frame s t [] [d] [] [])

/-- SC_CMOV answers a next state with S[d] = S[a] if C[k] is 1 and S[d] unchanged otherwise; SC_ISCANON answers one with C[k] = 1 exactly when S[a] is below ℓ. Both decode by their masks and fields; nothing else but pc changed. -/
def Obligations.ScalarSelectAndCanonicity : Prop :=
  -- SC_CMOV
  EncodedBy 0x0fff00ff#32 0x00000035#32 (fun w => .scCmov (fieldD w) (fieldA w) (fieldK w)) ∧
  (∀ (d a : SReg) (k : CReg) (s : State), ∃ t, exec (.scCmov d a k) s = .next t ∧ t.pc = s.pc + 4#13 ∧
    t.getS d = (if s.getC k = true then s.getS a else s.getS d) ∧
    Frame s t [] [d] [] []) ∧
  -- SC_ISCANON
  EncodedBy 0x0fff0fff#32 0x00000036#32 (fun w => .scIscanon (fieldK w) (fieldA w)) ∧
  (∀ (k : CReg) (a : SReg) (s : State), ∃ t, exec (.scIscanon k a) s = .next t ∧ t.pc = s.pc + 4#13 ∧
    (t.getC k = true ↔ (s.getS a).toNat < Config.ell) ∧
    Frame s t [] [] [] [k])

/-- PT_MOV, PT_ID and PT_BASE decode by their masks and fields and answer next states in which P[d] is P[a], (0, 1), respectively (Bx, By); nothing else but pc changed. -/
def Obligations.PointMoves : Prop :=
  -- PT_MOV
  EncodedBy 0xffff00ff#32 0x00000040#32 (fun w => .ptMov (fieldD w) (fieldA w)) ∧
  (∀ (d a : PReg) (s : State), ∃ t, exec (.ptMov d a) s = .next t ∧ t.pc = s.pc + 4#13 ∧
    t.getP d = s.getP a ∧
    Frame s t [] [] [d] []) ∧
  -- PT_ID
  EncodedBy 0xfffff0ff#32 0x00000041#32 (fun w => .ptId (fieldD w)) ∧
  (∀ (d : PReg) (s : State), ∃ t, exec (.ptId d) s = .next t ∧ t.pc = s.pc + 4#13 ∧
    (t.getP d).x.val = 0 ∧ (t.getP d).y.val = 1 ∧
    Frame s t [] [] [d] []) ∧
  -- PT_BASE
  EncodedBy 0xfffff0ff#32 0x00000042#32 (fun w => .ptBase (fieldD w)) ∧
  (∀ (d : PReg) (s : State), ∃ t, exec (.ptBase d) s = .next t ∧ t.pc = s.pc + 4#13 ∧
    (t.getP d).x.val = 15112221349535400772501151409588531511454012693041857206046113283949847762202 ∧
    (t.getP d).y.val = 46316835694926478169428394003475163141307993866256225615783033603165251855960 ∧
    Frame s t [] [] [d] [])

/-- The three commands decode by their masks and fields and answer next states in which P[d] is, of the points before the command: the sum of P[a] and P[b] by the formula of R186, the sum of P[a] and P[a] by the same formula, and the pair whose x adds to P[a]'s x to 0 modulo p with the same y; nothing else but pc changed. The formula's properties on E are statements of their own. -/
def Obligations.PointGroupCommands : Prop :=
  -- PT_ADD
  EncodedBy 0xfff000ff#32 0x00000043#32 (fun w => .ptAdd (fieldD w) (fieldA w) (fieldB w)) ∧
  (∀ (d a b : PReg) (s : State), ∃ t, exec (.ptAdd d a b) s = .next t ∧ t.pc = s.pc + 4#13 ∧
    (t.getP d).x = divp (addp (mulp (s.getP a).x (s.getP b).y) (mulp (s.getP a).y (s.getP b).x))
      (addp feOne (mulp dCoeff (mulp (mulp (s.getP a).x (s.getP b).x) (mulp (s.getP a).y (s.getP b).y)))) ∧
    (t.getP d).y = divp (addp (mulp (s.getP a).y (s.getP b).y) (mulp (s.getP a).x (s.getP b).x))
      (subp feOne (mulp dCoeff (mulp (mulp (s.getP a).x (s.getP b).x) (mulp (s.getP a).y (s.getP b).y)))) ∧
    Frame s t [] [] [d] []) ∧
  -- PT_DBL
  EncodedBy 0xffff00ff#32 0x00000044#32 (fun w => .ptDbl (fieldD w) (fieldA w)) ∧
  (∀ (d a : PReg) (s : State), ∃ t, exec (.ptDbl d a) s = .next t ∧ t.pc = s.pc + 4#13 ∧
    (t.getP d).x = divp (addp (mulp (s.getP a).x (s.getP a).y) (mulp (s.getP a).y (s.getP a).x))
      (addp feOne (mulp dCoeff (mulp (mulp (s.getP a).x (s.getP a).x) (mulp (s.getP a).y (s.getP a).y)))) ∧
    (t.getP d).y = divp (addp (mulp (s.getP a).y (s.getP a).y) (mulp (s.getP a).x (s.getP a).x))
      (subp feOne (mulp dCoeff (mulp (mulp (s.getP a).x (s.getP a).x) (mulp (s.getP a).y (s.getP a).y)))) ∧
    Frame s t [] [] [d] []) ∧
  -- PT_NEG
  EncodedBy 0xffff00ff#32 0x00000045#32 (fun w => .ptNeg (fieldD w) (fieldA w)) ∧
  (∀ (d a : PReg) (s : State), ∃ t, exec (.ptNeg d a) s = .next t ∧ t.pc = s.pc + 4#13 ∧
    ((t.getP d).x.val + (s.getP a).x.val) % Config.p = 0 ∧ (t.getP d).y = (s.getP a).y ∧
    Frame s t [] [] [d] [])

/-- For all points P and Q of E, with t = d·x1·x2·y1·y2: 1 + t and 1 − t are not 0; the sum (x3, y3) satisfies x3·(1 + t) = x1·y2 + y1·x2 and y3·(1 − t) = y1·y2 + x1·x2; and the sum is on E. -/
def Obligations.AdditionLawIsCompleteOnE : Prop :=
  ∀ P Q : Point, OnE P → OnE Q →
    let t := mulp dCoeff (mulp (mulp P.x Q.x) (mulp P.y Q.y))
    addp feOne t ≠ feZero ∧ subp feOne t ≠ feZero ∧
    mulp (pointAdd P Q).x (addp feOne t) = addp (mulp P.x Q.y) (mulp P.y Q.x) ∧
    mulp (pointAdd P Q).y (subp feOne t) = addp (mulp P.y Q.y) (mulp P.x Q.x) ∧
    OnE (pointAdd P Q)

/-- For all points P and Q of E: P + Q = Q + P, P + O = P, O + P = P, −P is on E, P + (−P) = O, and −(P + Q) = (−P) + (−Q). -/
def Obligations.PointGroupLaws : Prop :=
  ∀ P Q : Point, OnE P → OnE Q →
    pointAdd P Q = pointAdd Q P ∧ pointAdd P neutral = P ∧ pointAdd neutral P = P ∧ OnE (pointNeg P) ∧
    pointAdd P (pointNeg P) = neutral ∧ pointNeg (pointAdd P Q) = pointAdd (pointNeg P) (pointNeg Q)

/-- The four commands decode by their masks and fields and answer next states in which P[d] is S[b]·B, S[b]·P[a], S[b]·P[a] + S[c]·B, respectively 8·P[a], of the values before the command; nothing else but pc changed. The multiple n·P here is the model's doubling and adding (log entry 10); that it is repeated addition is a statement of its own. -/
def Obligations.ScalarMultipleCommands : Prop :=
  -- PT_SMULB
  EncodedBy 0xfff0f0ff#32 0x00000049#32 (fun w => .ptSmulb (fieldD w) (fieldB w)) ∧
  (∀ (d : PReg) (b : SReg) (s : State), ∃ t, exec (.ptSmulb d b) s = .next t ∧ t.pc = s.pc + 4#13 ∧
    t.getP d = pointMul (s.getS b).toNat basePoint ∧
    Frame s t [] [] [d] []) ∧
  -- PT_SMUL
  EncodedBy 0xfff000ff#32 0x0000004a#32 (fun w => .ptSmul (fieldD w) (fieldA w) (fieldB w)) ∧
  (∀ (d a : PReg) (b : SReg) (s : State), ∃ t, exec (.ptSmul d a b) s = .next t ∧ t.pc = s.pc + 4#13 ∧
    t.getP d = pointMul (s.getS b).toNat (s.getP a) ∧
    Frame s t [] [] [d] []) ∧
  -- PT_DSMUL
  EncodedBy 0xff0000ff#32 0x0000004b#32 (fun w => .ptDsmul (fieldD w) (fieldA w) (fieldB w) (fieldC w)) ∧
  (∀ (d a : PReg) (b c : SReg) (s : State), ∃ t, exec (.ptDsmul d a b c) s = .next t ∧ t.pc = s.pc + 4#13 ∧
    t.getP d = pointAdd (pointMul (s.getS b).toNat (s.getP a)) (pointMul (s.getS c).toNat basePoint) ∧
    Frame s t [] [] [d] []) ∧
  -- PT_MUL8
  EncodedBy 0xffff00ff#32 0x00000046#32 (fun w => .ptMul8 (fieldD w) (fieldA w)) ∧
  (∀ (d a : PReg) (s : State), ∃ t, exec (.ptMul8 d a) s = .next t ∧ t.pc = s.pc + 4#13 ∧
    t.getP d = pointMul 8 (s.getP a) ∧
    Frame s t [] [] [d] [])

/-- For every point P of E: the model's multiple satisfies 0·P = O and (n + 1)·P = n·P + P for every n, so it is the repeated addition of R187 on the whole integer n; and reducing n modulo ℓ gives the same point only where ℓ·P = O allows it: some point of E has ℓ·P other than O (the spec's own inference in R187). The model computes the multiple by doubling and adding (log entry 10). -/
def Obligations.ScalarMultipleIsRepeatedAddition : Prop :=
  (∀ P : Point, OnE P → pointMul 0 P = neutral ∧ (∀ n, pointMul (n + 1) P = pointAdd (pointMul n P) P) ∧
    ∀ n, pointMul n P = pointMulByAdding P n) ∧
  (∀ (P : Point) (n : Nat), OnE P → pointMul Config.ell P = neutral → pointMul n P = pointMul (n % Config.ell) P) ∧
  ∃ P : Point, OnE P ∧ pointMul Config.ell P ≠ neutral

/-- PT_CMOV answers a next state with P[d] = P[a] if C[k] is 1 and P[d] unchanged otherwise; PT_ISID answers one with C[k] = 1 exactly when P[a] is (0, 1). Both decode by their masks and fields; nothing else but pc changed. -/
def Obligations.PointSelectAndIdentityTest : Prop :=
  -- PT_CMOV
  EncodedBy 0x0fff00ff#32 0x00000047#32 (fun w => .ptCmov (fieldD w) (fieldA w) (fieldK w)) ∧
  (∀ (d a : PReg) (k : CReg) (s : State), ∃ t, exec (.ptCmov d a k) s = .next t ∧ t.pc = s.pc + 4#13 ∧
    t.getP d = (if s.getC k = true then s.getP a else s.getP d) ∧
    Frame s t [] [] [d] []) ∧
  -- PT_ISID
  EncodedBy 0x0fff0fff#32 0x00000048#32 (fun w => .ptIsid (fieldK w) (fieldA w)) ∧
  (∀ (k : CReg) (a : PReg) (s : State), ∃ t, exec (.ptIsid k a) s = .next t ∧ t.pc = s.pc + 4#13 ∧
    (t.getC k = true ↔ (s.getP a).x.val = 0 ∧ (s.getP a).y.val = 1) ∧
    Frame s t [] [] [] [k])

/-- PT_DEC decodes by its mask and fields and answers a next state in which (P[d], C[k]) is dec of the slot: if some x pairs with y = (v mod 2^255) mod p on E, then C[k] is 1 and P[d] is a point of E with that y and with x of the parity of bit 255, or x = 0; otherwise C[k] is 0 and P[d] is O. PT_ENC, in a state whose DMEM is canonical, stores y + parity(x)·2^255 of P[d] in its slot; every byte outside, every register and all host-port state is unchanged. -/
def Obligations.PointSlotTransfers : Prop :=
  -- PT_DEC
  EncodedBy 0x0f00f0ff#32 0x00000024#32 (fun w => .ptDec (fieldD w) (fieldK w) (fieldSlot w)) ∧
  (∀ (d : PReg) (k : CReg) (slot : Slot) (s : State), ∃ t, exec (.ptDec d k slot) s = .next t ∧ t.pc = s.pc + 4#13 ∧
    IsDecoded (s.readSlot slot) (t.getP d) (t.getC k) ∧
    Frame s t [] [] [d] [k]) ∧
  EncodedBy 0xff00f0ff#32 0x00000025#32 (fun w => .ptEnc (fieldSlot w) (fieldD w)) ∧
  (∀ (slot : Slot) (d : PReg) (s : State), s.dmem.wf Config.dmemBytes = true → ∃ t, exec (.ptEnc slot d) s = .next t ∧
    t.pc = s.pc + 4#13 ∧ t.readSlot slot = (s.getP d).y.val + (s.getP d).x.val % 2 * 2 ^ 255 ∧ StoreFrame s t slot)

/-- For every point P of E, dec(enc(P)) is (P, 1); and for every 256-bit v, enc of the point decoded from v is v if and only if decoding succeeds, v mod 2^255 is below p, and bit 255 is 0 where the decoded x is 0. -/
def Obligations.PointEncodingRoundTrips : Prop :=
  (∀ P : Point, OnE P → encodePoint P < 2 ^ 256 ∧ decodePoint (encodePoint P) = (P, true)) ∧
  (∀ v : Nat, v < 2 ^ 256 → (encodePoint (decodePoint v).1 = v ↔ CanonicalCompressed v))

/-- In every state whose DMEM is canonical, if C_ST, FE_ST, SC_ST or PT_ENC of a slot answers next t, then in any state with t's DMEM the load of that slot (C_LD, FE_LD, SC_LD, PT_DEC) answers a next state that holds the stored conditions, F[d], S[d], or, where P[d] is on E, P[d] with success bit 1. That a load after a store restores the value is the spec's own inference in R133, R142 and R232. -/
def Obligations.StoresThenLoadsRestore : Prop :=
  ∀ (slot : Slot) (s t u : State), s.dmem.wf Config.dmemBytes = true → u.dmem = t.dmem →
    (exec (.cSt slot) s = .next t → ∃ v, exec (.cLd slot) u = .next v ∧ ∀ i, v.getC i = s.getC i) ∧
    (∀ d e : FReg, exec (.feSt slot d) s = .next t → ∃ v, exec (.feLd e slot) u = .next v ∧ v.getF e = s.getF d) ∧
    (∀ d e : SReg, exec (.scSt slot d) s = .next t → ∃ v, exec (.scLd e slot) u = .next v ∧ v.getS e = s.getS d) ∧
    (∀ (d e : PReg) (k : CReg), OnE (s.getP d) → exec (.ptEnc slot d) s = .next t →
      ∃ v, exec (.ptDec e k slot) u = .next v ∧ v.getP e = s.getP d ∧ v.getC k = true)

/-- Each load decodes by its mask and fields and answers a next state: if its condition holds (the pair is on E; Z is not 0 and (X/Z, Y/Z) is on E; as before and T·Z = X·Y) then C[k] is 1 and P[d] is that affine point, otherwise C[k] is 0 and P[d] is O; nothing else but pc changed, and no load faults. -/
def Obligations.CoordinateLoads : Prop :=
  -- PT_LDAFF
  EncodedBy 0x0ff000ff#32 0x0000004c#32 (fun w => .ptLdaff (fieldD w) (fieldK w) (fieldA w) (fieldB w)) ∧
  (∀ (d : PReg) (k : CReg) (a b : FReg) (s : State), ∃ t, exec (.ptLdaff d k a b) s = .next t ∧ t.pc = s.pc + 4#13 ∧
    ((onCurve (s.getF a) (s.getF b) = true) → t.getC k = true ∧ t.getP d = ⟨s.getF a, s.getF b⟩) ∧
    (¬ (onCurve (s.getF a) (s.getF b) = true) → t.getC k = false ∧ t.getP d = neutral) ∧
    Frame s t [] [] [d] [k]) ∧
  -- PT_LDPROJ
  EncodedBy 0x0f0000ff#32 0x0000004d#32 (fun w => .ptLdproj (fieldD w) (fieldK w) (fieldA w) (fieldB w) (fieldC w)) ∧
  (∀ (d : PReg) (k : CReg) (a b c : FReg) (s : State), ∃ t, exec (.ptLdproj d k a b c) s = .next t ∧ t.pc = s.pc + 4#13 ∧
    (((s.getF c).val ≠ 0 ∧ onCurve (divp (s.getF a) (s.getF c)) (divp (s.getF b) (s.getF c)) = true) → t.getC k = true ∧ t.getP d = ⟨divp (s.getF a) (s.getF c), divp (s.getF b) (s.getF c)⟩) ∧
    (¬ ((s.getF c).val ≠ 0 ∧ onCurve (divp (s.getF a) (s.getF c)) (divp (s.getF b) (s.getF c)) = true) → t.getC k = false ∧ t.getP d = neutral) ∧
    Frame s t [] [] [d] [k]) ∧
  -- PT_LDEXT
  EncodedBy 0x000000ff#32 0x0000004e#32 (fun w => .ptLdext (fieldD w) (fieldK w) (fieldA w) (fieldB w) (fieldC w) (fieldE w)) ∧
  (∀ (d : PReg) (k : CReg) (a b c e : FReg) (s : State), ∃ t, exec (.ptLdext d k a b c e) s = .next t ∧ t.pc = s.pc + 4#13 ∧
    (((s.getF c).val ≠ 0 ∧ (s.getF e).val * (s.getF c).val % Config.p = (s.getF a).val * (s.getF b).val % Config.p ∧
        onCurve (divp (s.getF a) (s.getF c)) (divp (s.getF b) (s.getF c)) = true) → t.getC k = true ∧ t.getP d = ⟨divp (s.getF a) (s.getF c), divp (s.getF b) (s.getF c)⟩) ∧
    (¬ ((s.getF c).val ≠ 0 ∧ (s.getF e).val * (s.getF c).val % Config.p = (s.getF a).val * (s.getF b).val % Config.p ∧
        onCurve (divp (s.getF a) (s.getF c)) (divp (s.getF b) (s.getF c)) = true) → t.getC k = false ∧ t.getP d = neutral) ∧
    Frame s t [] [] [d] [k])

/-- PT_STAFF decodes by its mask and fields and answers a next state in which F[a] is the y of P[b] and, where d and a differ, F[d] is the x of P[b]; nothing else but pc changed. -/
def Obligations.StoreAffineCoordinates : Prop :=
  -- PT_STAFF
  EncodedBy 0xfff000ff#32 0x0000004f#32 (fun w => .ptStaff (fieldD w) (fieldA w) (fieldB w)) ∧
  (∀ (d a : FReg) (b : PReg) (s : State), ∃ t, exec (.ptStaff d a b) s = .next t ∧ t.pc = s.pc + 4#13 ∧
    t.getF a = (s.getP b).y ∧ (d ≠ a → t.getF d = (s.getP b).x) ∧
    Frame s t [d, a] [] [] [])

/-- H2P_ELL2 writes F[d] = u where u1·(1 + 2r²) = −A_M for r = F[a], and u is u1 if u1³ + A_M·u1² + u1 has a root, else −A_M − u1. H2P_M2E writes, for u = F[a] and sign C[b]: if u³ + A_M·u² + u has a root, C[k] = 1 and P[d] with y·(u + 1) = u − 1, x²·(u² + A_M·u + 1) = −(A_M + 2)·u and x of the sign's parity or 0; else C[k] = 0 and O. H2P writes 8·Q (log entry 10) for the Q of those two. All decode by their masks and fields and change nothing else but pc. -/
def Obligations.HashToPointCommands : Prop :=
  -- H2P_ELL2
  EncodedBy 0xffff00ff#32 0x00000050#32 (fun w => .h2pEll2 (fieldD w) (fieldA w)) ∧
  (∀ (d a : FReg) (s : State), ∃ t, exec (.h2pEll2 d a) s = .next t ∧ t.pc = s.pc + 4#13 ∧
    IsElligator (s.getF a) (t.getF d) ∧
    Frame s t [d] [] [] []) ∧
  -- H2P_M2E
  EncodedBy 0x0ff000ff#32 0x00000051#32 (fun w => .h2pM2e (fieldD w) (fieldK w) (fieldA w) (fieldB w)) ∧
  (∀ (d : PReg) (k : CReg) (a : FReg) (b : CReg) (s : State), ∃ t, exec (.h2pM2e d k a b) s = .next t ∧ t.pc = s.pc + 4#13 ∧
    IsConverted (s.getF a) (s.getC b) (t.getP d) (t.getC k) ∧
    Frame s t [] [] [d] [k]) ∧
  -- H2P
  EncodedBy 0xfff000ff#32 0x00000052#32 (fun w => .h2p (fieldD w) (fieldA w) (fieldB w)) ∧
  (∀ (d : PReg) (a : FReg) (b : CReg) (s : State), ∃ t, exec (.h2p d a b) s = .next t ∧ t.pc = s.pc + 4#13 ∧
    (∃ u Q ok, IsElligator (s.getF a) u ∧ IsConverted u (s.getC b) Q ok ∧ ok = true ∧ t.getP d = pointMul 8 Q) ∧
    Frame s t [] [] [d] [])

/-- For every field element r and sign, m2e(ell2(r), sign) succeeds with a point of E; and for every u, whatever m2e returns is on E. -/
def Obligations.ElligatorOutputsAlwaysConvert : Prop :=
  (∀ (r : Fe) (sign : Bool), (m2e (ell2 r) sign).2 = true ∧ OnE (m2e (ell2 r) sign).1) ∧
  (∀ (u : Fe) (sign : Bool), OnE (m2e u sign).1)

/-- For every r, ell2(p − r) is ell2(r); and if H2P runs on the same field operand with sign condition 0 and 1, the second result is the negative of the first. -/
def Obligations.HashSignOnlyNegates : Prop :=
  (∀ r : Fe, ell2 (negp r) = ell2 r) ∧
  (∀ (d : PReg) (a : FReg) (b : CReg) (s s' t t' : State), s'.getF a = s.getF a → s.getC b = false → s'.getC b = true →
    exec (.h2p d a b) s = .next t → exec (.h2p d a b) s' = .next t' → t'.getP d = pointNeg (t.getP d))

/-- In a legal idle state, a 4-byte host access at an offset that is a multiple of 4: below 0x1000 it reads or writes the word of IMEM bytes o to o + 3, from 0x1000 to 0x2FFF the word of DMEM bytes o − 0x1000 to o − 0x1000 + 3, byte o in bits 7:0. A read changes nothing but the value answered; a write changes those four bytes only, and reading them back gives the word. For every slot n: byte 32·n + i of DMEM is bits 8·i to 8·i + 7 of the integer that the commands read from slot n, for i below 32; its word j, bytes 32·n + 4·j to 32·n + 4·j + 3, is bits 32·j to 32·j + 31, for j below 8; and, where DMEM is canonical, a command's write of v below 2^256 to slot n stores bits 8·i to 8·i + 7 of v at byte 32·n + i. -/
def Obligations.HostReachesMemoriesWhileIdle : Prop :=
  (∀ (s : State) (rest : List Event) (o : BitVec 14), s.Legal → s.busy = false → o.toNat % 4 = 0 → o.toNat < 0x3000 →
    let isI := o.toNat < 0x1000
    let a := if isI then o.toNat else o.toNat - 0x1000
    let memOf (t : State) : Memory := if isI then t.imem else t.dmem
    let wordOf (t : State) : Nat := ((memOf t).read a).toNat + 2 ^ 8 * ((memOf t).read (a + 1)).toNat +
      2 ^ 16 * ((memOf t).read (a + 2)).toNat + 2 ^ 24 * ((memOf t).read (a + 3)).toNat
    (s.schedule = .host (.read 4 o) :: rest →
      ∃ t, step s = .next t ∧ t.readData.toNat = wordOf s ∧ t = { s with schedule := rest, readData := t.readData }) ∧
    (∀ w : Word, s.schedule = .host (.write 4 o w) :: rest →
      ∃ t, step s = .next t ∧ wordOf t = w.toNat ∧
        (∀ x, x < a ∨ a + 4 ≤ x → (memOf t).read x = (memOf s).read x) ∧
        (if isI then t = { s with schedule := rest, imem := t.imem } else t = { s with schedule := rest, dmem := t.dmem }))) ∧
  (∀ (s : State) (n : Slot),
    (∀ i < 32, (s.dmem.read (32 * n.val + i)).toNat = s.readSlot n / 2 ^ (8 * i) % 2 ^ 8) ∧
    (∀ j < 8, (s.dmem.read (32 * n.val + 4 * j)).toNat + 2 ^ 8 * (s.dmem.read (32 * n.val + 4 * j + 1)).toNat +
      2 ^ 16 * (s.dmem.read (32 * n.val + 4 * j + 2)).toNat + 2 ^ 24 * (s.dmem.read (32 * n.val + 4 * j + 3)).toNat =
        s.readSlot n / 2 ^ (32 * j) % 2 ^ 32) ∧
    (s.dmem.wf Config.dmemBytes = true → ∀ v < 2 ^ 256, ∀ i < 32,
      ((s.writeSlot n v).dmem.read (32 * n.val + i)).toNat = v / 2 ^ (8 * i) % 2 ^ 8))

/-- A host access whose size is not 4 or whose offset is no multiple of 4, or that is to an offset of 0x3020 or above, or to IMEM or DMEM (below 0x3000) while BUSY is 1, answers a next state with HERR 1 that differs from the state before only in HERR, the event removed and, for a read, the answered value 0: the write is dropped and the engine goes on. -/
def Obligations.HostProtocolErrorsOnlySetHerr : Prop :=
  ∀ (s : State) (rest : List Event) (size : Nat) (o : BitVec 14),
    (size ≠ 4 ∨ o.toNat % 4 ≠ 0 ∨ 0x3020 ≤ o.toNat ∨ (s.busy = true ∧ o.toNat < 0x3000)) →
    (s.schedule = .host (.read size o) :: rest →
      step s = .next { s with schedule := rest, herr := true, readData := 0#32 }) ∧
    (∀ w : Word, s.schedule = .host (.write size o w) :: rest →
      step s = .next { s with schedule := rest, herr := true })

/-- A host write of w to CTRL answers a next state with IE = w[8], and then: no action bit, nothing else; two or more of bits 0 to 2, HERR and nothing else; START alone, HERR and nothing else while busy, else DONE, FAULT, the fault record and abort_req cleared, pc = START_PC and BUSY set, registers and memories kept; ABORT alone, abort_req set while busy, nothing while idle; ZEROIZE alone, HERR and nothing else while busy, else every field, scalar and condition register 0, every point register O, and every byte of both memories 0, with the rest kept. A read of CTRL gives IE in bit 8 and 0 elsewhere. And at the next engine step with abort_req set, on an empty schedule or an engine event at its head, the running engine takes ABORTED at pc with FAULT_INSN 0. -/
def Obligations.CtrlWriteActions : Prop :=
  (∀ (s : State) (rest : List Event) (w : Word), s.schedule = .host (.write 4 0x3000#14 w) :: rest →
    let s1 := { s with schedule := rest, ie := w.getLsbD 8 }
    let n := (w.getLsbD 0).toNat + (w.getLsbD 1).toNat + (w.getLsbD 2).toNat
    (n = 0 → step s = .next s1) ∧
    (2 ≤ n → step s = .next { s1 with herr := true }) ∧
    (n = 1 → w.getLsbD 0 = true → s.busy = true → step s = .next { s1 with herr := true }) ∧
    (n = 1 → w.getLsbD 0 = true → s.busy = false → ∃ t, step s = .next t ∧ t.pc.toNat = 4 * s.startPc.toNat ∧
      t = { s1 with
        busy := true, done := false, fault := false, faultCause := .none,
        faultPc := 0#13, faultInsn := 0#32, abortReq := false, pc := t.pc }) ∧
    (n = 1 → w.getLsbD 1 = true → s.busy = true → step s = .next { s1 with abortReq := true }) ∧
    (n = 1 → w.getLsbD 1 = true → s.busy = false → step s = .next s1) ∧
    (n = 1 → w.getLsbD 2 = true → s.busy = true → step s = .next { s1 with herr := true }) ∧
    (n = 1 → w.getLsbD 2 = true → s.busy = false → ∃ t, step s = .next t ∧ (∀ i, (t.getF i).val = 0) ∧
      (∀ i, t.getS i = 0#256) ∧ (∀ i, t.getP i = neutral) ∧ (∀ i, t.getC i = false) ∧
      (∀ x, t.imem.read x = 0#8 ∧ t.dmem.read x = 0#8) ∧
      t = { s1 with fReg := t.fReg, sReg := t.sReg, pReg := t.pReg, cReg := t.cReg, imem := t.imem, dmem := t.dmem })) ∧
  (∀ (s : State) (rest : List Event), s.schedule = .host (.read 4 0x3000#14) :: rest →
    step s = .next { s with schedule := rest, readData := if s.ie = true then 0x100#32 else 0#32 }) ∧
  (∀ (s : State) (rest : List Event), (s.schedule = [] ∧ rest = [] ∨ s.schedule = .engine :: rest) →
    s.busy = true → s.abortReq = true → ∃ t, step s = .next t ∧ t.schedule = rest ∧
    t.faultCause = .aborted ∧ t.faultPc = s.pc ∧ t.pc = s.pc ∧ t.faultInsn = 0#32 ∧ t.busy = false ∧ t.fault = true ∧
    SameRegisters s t ∧ SameDmem s t)

/-- A host write of w to STATUS clears DONE, FAULT or HERR where w[1], w[2] or w[3] is 1 and changes nothing else, the fault record included; a write to START_PC, busy or not, stores bits 11:2 and changes nothing else, and START_PC then reads as those bits with 0 elsewhere, a multiple of 4 of at most 4092, and 0 after reset; a write to PC, FAULT_CAUSE, FAULT_PC, FAULT_INSN or ID changes nothing and sets no HERR. -/
def Obligations.StatusStartPcAndReadOnlyWrites : Prop :=
  (∀ (s : State) (rest : List Event) (w : Word),
    (s.schedule = .host (.write 4 0x3004#14 w) :: rest → step s = .next { s with
      schedule := rest,
      done := s.done && !w.getLsbD 1, fault := s.fault && !w.getLsbD 2, herr := s.herr && !w.getLsbD 3 }) ∧
    (s.schedule = .host (.write 4 0x3008#14 w) :: rest → ∃ t, step s = .next t ∧
      t = { s with schedule := rest, startPc := t.startPc } ∧ t.registerWord 0x3008 = w &&& 0xFFC#32 ∧
      (t.registerWord 0x3008).toNat % 4 = 0 ∧ (t.registerWord 0x3008).toNat ≤ 4092) ∧
    (∀ o ∈ [0x300C#14, 0x3010#14, 0x3014#14, 0x3018#14, 0x301C#14], s.schedule = .host (.write 4 o w) :: rest →
      step s = .next { s with schedule := rest })) ∧
  State.reset.registerWord 0x3008 = 0#32

/-- A host read of each register answers its word with the stated bits and 0 elsewhere and changes nothing else, except that a read of PC while busy answers some value of at most 4096 (a free value of the model, log entry 6, of which nothing more is said) and uses up one draw; while idle PC reads pc exactly. STATUS reads BUSY, DONE, FAULT, HERR in bits 0 to 3, FAULT_CAUSE a code of 0 to 4, ID the constant 0x25519007. In a legal idle state with a fault recorded PC reads FAULT_PC. -/
def Obligations.HostRegisterReads : Prop :=
  (∀ (s : State) (rest : List Event) (o : BitVec 14) (v : Nat), s.schedule = .host (.read 4 o) :: rest →
    (o = 0x3004#14 ∧ v = s.busy.toNat + 2 * s.done.toNat + 4 * s.fault.toNat + 8 * s.herr.toNat ∨
     o = 0x3008#14 ∧ v = 4 * s.startPc.toNat ∨
     o = 0x300C#14 ∧ s.busy = false ∧ v = s.pc.toNat ∨
     o = 0x3010#14 ∧ (s.faultCause, v) ∈ [(.none, 0), (.illegalOpcode, 1), (.illegalField, 2), (.fetchRange, 3), (.aborted, 4)] ∨
     o = 0x3014#14 ∧ v = s.faultPc.toNat ∨
     o = 0x3018#14 ∧ v = s.faultInsn.toNat ∨
     o = 0x301C#14 ∧ v = 0x25519007) →
    ∃ t, step s = .next t ∧ t.readData.toNat = v ∧ t = { s with schedule := rest, readData := t.readData }) ∧
  (∀ (s : State) (rest : List Event), s.schedule = .host (.read 4 0x300C#14) :: rest → s.busy = true →
    ∃ t, step s = .next t ∧ t.readData.toNat ≤ 4096 ∧
      t = { s with schedule := rest, readData := t.readData, draws := s.draws + 1 }) ∧
  (∀ s : State, s.Legal → s.busy = false → s.faultCause ≠ .none → s.pcWord = s.faultPc.setWidth 32)

/-- In every state whose next event is the reset input, busy or not, the step answers the power-on state with the memories as they were (the model's own schedule, read data and count of draws kept): BUSY, DONE, FAULT and the fault record are 0, the registers have their reset values, irq is 0, and every byte of IMEM and DMEM reads as before. -/
def Obligations.ResetInputEndsTheRun : Prop :=
  ∀ (s : State) (rest : List Event), s.schedule = .reset :: rest → ∃ t, step s = .next t ∧
    t = { State.powerOn s.imem s.dmem with schedule := rest, readData := s.readData, draws := s.draws } ∧
    SameRegisters State.reset t ∧ SameImem s t ∧ SameDmem s t ∧ t.pc = 0#13 ∧ t.abortReq = false ∧
    t.ie = false ∧ t.statusWord = 0#32 ∧ t.startPc = 0#10 ∧ t.faultCause = .none ∧ t.faultPc = 0#13 ∧
    t.faultInsn = 0#32 ∧ t.irq = false

/-- In every state the interrupt output is 1 exactly when IE is 1 and DONE or FAULT is 1; HERR does not drive it. -/
def Obligations.InterruptLevel : Prop :=
  ∀ s : State, s.irq = true ↔ s.ie = true ∧ (s.done = true ∨ s.fault = true)
end

