-- ==== Sys2Proof/Laws/Encoding.lean ====
section
/-! SUPPORT. What the four command formats hold in each field, once (30_encoding R91, R92). -/

namespace Sys2Proof

@[simp] theorem nib_toFin (r : Fin 16) : (nib r).toFin = r := rfl

/-- A format R word bit by bit. -/
theorem getLsbD_packR (k e c b a d : BitVec 4) (op : BitVec 8) (i : Nat) : (packR k e c b a d op).getLsbD i =
    if i < 8 then op.getLsbD i else if i - 8 < 4 then d.getLsbD (i - 8)
    else if i - 8 - 4 < 4 then a.getLsbD (i - 8 - 4) else if i - 8 - 4 - 4 < 4 then b.getLsbD (i - 8 - 4 - 4)
    else if i - 8 - 4 - 4 - 4 < 4 then c.getLsbD (i - 8 - 4 - 4 - 4)
    else if i - 8 - 4 - 4 - 4 - 4 < 4 then e.getLsbD (i - 8 - 4 - 4 - 4 - 4)
    else k.getLsbD (i - 8 - 4 - 4 - 4 - 4 - 4) := by
  simp only [packR, BitVec.getLsbD_append]

/-- A format M word bit by bit. -/
theorem getLsbD_packM (k : BitVec 4) (slot : BitVec 8) (d : BitVec 4) (op : BitVec 8) (i : Nat) :
    (packM k slot d op).getLsbD i =
    if i < 8 then op.getLsbD i else if i - 8 < 4 then d.getLsbD (i - 8) else if i - 8 - 4 < 4 then false
    else if i - 8 - 4 - 4 < 8 then slot.getLsbD (i - 8 - 4 - 4) else if i - 8 - 4 - 4 - 8 < 4 then false
    else k.getLsbD (i - 8 - 4 - 4 - 8 - 4) := by
  simp only [packM, BitVec.getLsbD_append, BitVec.getLsbD_zero]

/-- A format I word bit by bit. -/
theorem getLsbD_packI (imm : BitVec 20) (d : BitVec 4) (op : BitVec 8) (i : Nat) : (packI imm d op).getLsbD i =
    if i < 8 then op.getLsbD i else if i - 8 < 4 then d.getLsbD (i - 8) else imm.getLsbD (i - 8 - 4) := by
  simp only [packI, BitVec.getLsbD_append]

/-- A format N word bit by bit. -/
theorem getLsbD_packN (op : BitVec 8) (i : Nat) :
    (packN op).getLsbD i = if i < 8 then op.getLsbD i else false := by
  simp only [packN, BitVec.getLsbD_append, BitVec.getLsbD_zero]

@[simp] theorem opOf_packR (k e c b a d : BitVec 4) (op : BitVec 8) : opOf (packR k e c b a d op) = op := by
  apply BitVec.eq_of_getLsbD_eq
  intro i hi
  simp [opOf, getLsbD_packR, hi]

@[simp] theorem fieldD_packR (k e c b a d : BitVec 4) (op : BitVec 8) : fieldD (packR k e c b a d op) = d.toFin := by
  apply congrArg BitVec.toFin
  apply BitVec.eq_of_getLsbD_eq
  intro i hi
  have n0 : ¬ (8 + i < 8) := by omega
  have e : 8 + i - 8 = i := by omega
  simp only [BitVec.getLsbD_extractLsb', hi, decide_true, Bool.true_and, getLsbD_packR, if_neg n0, e, if_true]

@[simp] theorem fieldA_packR (k e c b a d : BitVec 4) (op : BitVec 8) : fieldA (packR k e c b a d op) = a.toFin := by
  apply congrArg BitVec.toFin
  apply BitVec.eq_of_getLsbD_eq
  intro i hi
  have n0 : ¬ (12 + i < 8) := by omega
  have n1 : ¬ (12 + i - 8 < 4) := by omega
  have e : 12 + i - 8 - 4 = i := by omega
  simp only [BitVec.getLsbD_extractLsb', hi, decide_true, Bool.true_and, getLsbD_packR, if_neg n0, if_neg n1, e, if_true]

@[simp] theorem fieldB_packR (k e c b a d : BitVec 4) (op : BitVec 8) : fieldB (packR k e c b a d op) = b.toFin := by
  apply congrArg BitVec.toFin
  apply BitVec.eq_of_getLsbD_eq
  intro i hi
  have n0 : ¬ (16 + i < 8) := by omega
  have n1 : ¬ (16 + i - 8 < 4) := by omega
  have n2 : ¬ (16 + i - 8 - 4 < 4) := by omega
  have e : 16 + i - 8 - 4 - 4 = i := by omega
  simp only [BitVec.getLsbD_extractLsb', hi, decide_true, Bool.true_and, getLsbD_packR, if_neg n0, if_neg n1, if_neg n2, e, if_true]

@[simp] theorem fieldC_packR (k e c b a d : BitVec 4) (op : BitVec 8) : fieldC (packR k e c b a d op) = c.toFin := by
  apply congrArg BitVec.toFin
  apply BitVec.eq_of_getLsbD_eq
  intro i hi
  have n0 : ¬ (20 + i < 8) := by omega
  have n1 : ¬ (20 + i - 8 < 4) := by omega
  have n2 : ¬ (20 + i - 8 - 4 < 4) := by omega
  have n3 : ¬ (20 + i - 8 - 4 - 4 < 4) := by omega
  have e : 20 + i - 8 - 4 - 4 - 4 = i := by omega
  simp only [BitVec.getLsbD_extractLsb', hi, decide_true, Bool.true_and, getLsbD_packR, if_neg n0, if_neg n1, if_neg n2, if_neg n3, e, if_true]

@[simp] theorem fieldE_packR (k e c b a d : BitVec 4) (op : BitVec 8) : fieldE (packR k e c b a d op) = e.toFin := by
  apply congrArg BitVec.toFin
  apply BitVec.eq_of_getLsbD_eq
  intro i hi
  have n0 : ¬ (24 + i < 8) := by omega
  have n1 : ¬ (24 + i - 8 < 4) := by omega
  have n2 : ¬ (24 + i - 8 - 4 < 4) := by omega
  have n3 : ¬ (24 + i - 8 - 4 - 4 < 4) := by omega
  have n4 : ¬ (24 + i - 8 - 4 - 4 - 4 < 4) := by omega
  have e : 24 + i - 8 - 4 - 4 - 4 - 4 = i := by omega
  simp only [BitVec.getLsbD_extractLsb', hi, decide_true, Bool.true_and, getLsbD_packR, if_neg n0, if_neg n1, if_neg n2, if_neg n3, if_neg n4, e, if_true]

@[simp] theorem fieldK_packR (k e c b a d : BitVec 4) (op : BitVec 8) : fieldK (packR k e c b a d op) = k.toFin := by
  apply congrArg BitVec.toFin
  apply BitVec.eq_of_getLsbD_eq
  intro i hi
  have n0 : ¬ (28 + i < 8) := by omega
  have n1 : ¬ (28 + i - 8 < 4) := by omega
  have n2 : ¬ (28 + i - 8 - 4 < 4) := by omega
  have n3 : ¬ (28 + i - 8 - 4 - 4 < 4) := by omega
  have n4 : ¬ (28 + i - 8 - 4 - 4 - 4 < 4) := by omega
  have n5 : ¬ (28 + i - 8 - 4 - 4 - 4 - 4 < 4) := by omega
  have e : 28 + i - 8 - 4 - 4 - 4 - 4 - 4 = i := by omega
  simp only [BitVec.getLsbD_extractLsb', hi, decide_true, Bool.true_and, getLsbD_packR, if_neg n0, if_neg n1, if_neg n2, if_neg n3, if_neg n4, if_neg n5, e]

/-- Format M's slot is format R's fields c and b (30_encoding R91: the slot field overlaps them). -/
theorem packM_eq_packR (k : BitVec 4) (slot : BitVec 8) (d : BitVec 4) (op : BitVec 8) :
    packM k slot d op = packR k 0#4 (slot.extractLsb' 4 4) (slot.extractLsb' 0 4) 0#4 d op := by
  apply BitVec.eq_of_getLsbD_eq
  intro i hi
  simp only [getLsbD_packM, getLsbD_packR, BitVec.getLsbD_extractLsb']
  by_cases h1 : i < 8
  · simp [h1]
  by_cases h2 : i - 8 < 4
  · simp [h1, h2]
  by_cases h3 : i - 8 - 4 < 4
  · simp [h1, h2, h3]
  by_cases h4 : i - 8 - 4 - 4 < 4
  · have : i - 8 - 4 - 4 < 8 := by omega
    simp [h1, h2, h3, h4, this]
  by_cases h5 : i - 8 - 4 - 4 - 4 < 4
  · have h6 : i - 8 - 4 - 4 < 8 := by omega
    have h7 : 4 + (i - 8 - 4 - 4 - 4) = i - 8 - 4 - 4 := by omega
    simp [h1, h2, h3, h4, h5, h6, h7]
  · have h6 : ¬ (i - 8 - 4 - 4 < 8) := by omega
    have h7 : i - 8 - 4 - 4 - 4 - 4 = i - 8 - 4 - 4 - 8 := by omega
    simp [h1, h2, h3, h4, h5, h6, h7]

@[simp] theorem opOf_packM (k : BitVec 4) (slot : BitVec 8) (d : BitVec 4) (op : BitVec 8) :
    opOf (packM k slot d op) = op := by
  rw [packM_eq_packR, opOf_packR]

@[simp] theorem fieldD_packM (k : BitVec 4) (slot : BitVec 8) (d : BitVec 4) (op : BitVec 8) :
    fieldD (packM k slot d op) = d.toFin := by
  rw [packM_eq_packR, fieldD_packR]

@[simp] theorem fieldK_packM (k : BitVec 4) (slot : BitVec 8) (d : BitVec 4) (op : BitVec 8) :
    fieldK (packM k slot d op) = k.toFin := by
  rw [packM_eq_packR, fieldK_packR]

@[simp] theorem fieldSlot_packM (k : BitVec 4) (slot : BitVec 8) (d : BitVec 4) (op : BitVec 8) : fieldSlot (packM k slot d op) = slot.toFin := by
  apply congrArg BitVec.toFin
  apply BitVec.eq_of_getLsbD_eq
  intro i hi
  have n0 : ¬ (16 + i < 8) := by omega
  have n1 : ¬ (16 + i - 8 < 4) := by omega
  have n2 : ¬ (16 + i - 8 - 4 < 4) := by omega
  have e : 16 + i - 8 - 4 - 4 = i := by omega
  simp only [BitVec.getLsbD_extractLsb', hi, decide_true, Bool.true_and, getLsbD_packM, if_neg n0, if_neg n1, if_neg n2, e, if_true]

@[simp] theorem opOf_packI (imm : BitVec 20) (d : BitVec 4) (op : BitVec 8) : opOf (packI imm d op) = op := by
  apply BitVec.eq_of_getLsbD_eq
  intro i hi
  simp [opOf, getLsbD_packI, hi]

@[simp] theorem fieldD_packI (imm : BitVec 20) (d : BitVec 4) (op : BitVec 8) : fieldD (packI imm d op) = d.toFin := by
  apply congrArg BitVec.toFin
  apply BitVec.eq_of_getLsbD_eq
  intro i hi
  have n0 : ¬ (8 + i < 8) := by omega
  have e : 8 + i - 8 = i := by omega
  simp only [BitVec.getLsbD_extractLsb', hi, decide_true, Bool.true_and, getLsbD_packI, if_neg n0, e, if_true]

@[simp] theorem fieldImm20_packI (imm : BitVec 20) (d : BitVec 4) (op : BitVec 8) : fieldImm20 (packI imm d op) = imm.toNat := by
  apply congrArg BitVec.toNat
  apply BitVec.eq_of_getLsbD_eq
  intro i hi
  have n0 : ¬ (12 + i < 8) := by omega
  have n1 : ¬ (12 + i - 8 < 4) := by omega
  have e : 12 + i - 8 - 4 = i := by omega
  simp only [BitVec.getLsbD_extractLsb', hi, decide_true, Bool.true_and, getLsbD_packI, if_neg n0, if_neg n1, e]

@[simp] theorem opOf_packN (op : BitVec 8) : opOf (packN op) = op := by
  apply BitVec.eq_of_getLsbD_eq
  intro i hi
  simp [opOf, getLsbD_packN, hi]

/-- A mask that is itself written in format R picks the fields one by one. -/
theorem packR_and_packR (k e c b a d k' e' c' b' a' d' : BitVec 4) (op op' : BitVec 8) :
    packR k e c b a d op &&& packR k' e' c' b' a' d' op' =
      packR (k &&& k') (e &&& e') (c &&& c') (b &&& b') (a &&& a') (d &&& d') (op &&& op') := by
  apply BitVec.eq_of_getLsbD_eq
  intro i hi
  simp only [getLsbD_packR, BitVec.getLsbD_and]
  split <;> [rfl; skip]
  split <;> [rfl; skip]
  split <;> [rfl; skip]
  split <;> [rfl; skip]
  split <;> [rfl; skip]
  split <;> rfl

end Sys2Proof
end

