-- ==== Sys2Proof/Laws/Field.lean ====
section
/-! SUPPORT. What each field operation computes, once: its value as an integer, and its image in ZMod p, where ring
arithmetic applies. -/

namespace Sys2Proof.Machine

/-- The value of the residue of n. -/
@[simp] theorem Fe.val_ofNat (n : Nat) : (Fe.ofNat n).val = n % Config.p := rfl

/-- A field element is the residue of its own value. -/
theorem Fe.ofNat_val (a : Fe) : Fe.ofNat a.val = a := Fin.ext (Nat.mod_eq_of_lt a.isLt)

theorem addp_val (a b : Fe) : (addp a b).val = (a.val + b.val) % Config.p := rfl

theorem mulp_val (a b : Fe) : (mulp a b).val = (a.val * b.val) % Config.p := rfl

theorem negp_val (a : Fe) : (negp a).val = (Config.p - a.val) % Config.p := rfl

theorem subp_val (a b : Fe) : (subp a b).val = (a.val + (Config.p - b.val)) % Config.p := rfl

/-- powMod is exponentiation modulo m for every exponent its digits can hold. -/
theorem powMod_eq (m b : Nat) : ∀ (k e : Nat), e < 16 ^ k → powMod m b k e = b ^ e % m := by
  intro k
  induction k with
  | zero => intro e he; have : e = 0 := by simpa using he
            simp [powMod, this]
  | succ k ih =>
    intro e he
    have hk : e / 16 < 16 ^ k := by
      rw [pow_succ] at he
      exact Nat.div_lt_of_lt_mul (by rwa [Nat.mul_comm] at he)
    have hd : e = 16 * (e / 16) + e % 16 := (Nat.div_add_mod e 16).symm
    simp only [powMod, ih _ hk]
    conv_rhs => rw [hd, pow_add, Nat.mul_comm 16 (e / 16), pow_mul]
    rw [Nat.mul_mod, ← Nat.pow_mod, ← Nat.mul_mod]

/-- The hexadecimal digits of e number at most log2 e / 4 + 1. -/
theorem lt_sixteen_pow_log2 (e : Nat) : e < 16 ^ (e.log2 / 4 + 1) := by
  by_cases h : e = 0
  · subst h; decide
  · have h1 : e < 2 ^ (e.log2 + 1) := Nat.lt_log2_self
    have h2 : (2 : Nat) ^ (e.log2 + 1) ≤ 2 ^ (4 * (e.log2 / 4 + 1)) := Nat.pow_le_pow_right (by decide) (by omega)
    rw [pow_mul] at h2
    exact lt_of_lt_of_le h1 h2

/-- powp(a, e) is a^e mod p, for every e (00_scope R15). -/
theorem powp_val (a : Fe) (e : Nat) : (powp a e).val = a.val ^ e % Config.p := by
  rw [powp, Fe.val_ofNat, powMod_eq _ _ _ _ (lt_sixteen_pow_log2 e), Nat.mod_mod]

/-- A field element in ZMod p. -/
def toZ (a : Fe) : ZMod Config.p := (a.val : ZMod Config.p)

/-- Field elements with the same image are the same. -/
theorem toZ_injective {a b : Fe} (h : toZ a = toZ b) : a = b := by
  have hv := (ZMod.natCast_eq_natCast_iff' a.val b.val Config.p).1 h
  rw [Nat.mod_eq_of_lt a.isLt, Nat.mod_eq_of_lt b.isLt] at hv
  exact Fin.ext hv

theorem toZ_inj {a b : Fe} : toZ a = toZ b ↔ a = b := ⟨toZ_injective, fun h => h ▸ rfl⟩

@[simp] theorem toZ_ofNat (n : Nat) : toZ (Fe.ofNat n) = (n : ZMod Config.p) := by
  simp [toZ]

@[simp] theorem toZ_feZero : toZ feZero = 0 := by simp [feZero]

@[simp] theorem toZ_feOne : toZ feOne = 1 := by simp [feOne]

@[simp] theorem toZ_addp (a b : Fe) : toZ (addp a b) = toZ a + toZ b := by
  simp [addp, toZ]

@[simp] theorem toZ_mulp (a b : Fe) : toZ (mulp a b) = toZ a * toZ b := by
  simp [mulp, toZ]

@[simp] theorem toZ_negp (a : Fe) : toZ (negp a) = -toZ a := by
  simp [negp, toZ, Nat.cast_sub a.isLt.le]

@[simp] theorem toZ_subp (a b : Fe) : toZ (subp a b) = toZ a - toZ b := by
  simp [subp, toZ, Nat.cast_sub b.isLt.le, sub_eq_add_neg]

@[simp] theorem toZ_powp (a : Fe) (e : Nat) : toZ (powp a e) = toZ a ^ e := by
  have h : ((powp a e).val : ZMod Config.p) = ((a.val ^ e % Config.p : Nat) : ZMod Config.p) := by rw [powp_val]
  simpa [toZ] using h

@[simp] theorem toZ_divp (a b : Fe) : toZ (divp a b) = toZ a * toZ b ^ (Config.p - 2) := by
  simp [divp, invp]

/-- The curve equation, in ZMod p (42_group R183). -/
theorem onCurve_iff (x y : Fe) : onCurve x y = true ↔
    -(toZ x * toZ x) + toZ y * toZ y = 1 + (Config.curveD : ZMod Config.p) * (toZ x * toZ x * (toZ y * toZ y)) := by
  simp [onCurve, ← toZ_inj, dCoeff]

end Sys2Proof.Machine
end

