-- ==== Sys2Proof/Laws/Memory.lean ====
section
/-! SUPPORT. What the memory operations do, once: reads after writes, the canonical form kept, equal memories equal data,
and little-endian encodings read back. -/

namespace Sys2Proof.Machine

/-- Below the first address a memory may list, every byte reads as an unlisted one. -/
theorem Memory.read_below {size : Nat} : ∀ {low : Nat} {m : Memory}, Memory.wfFrom size low m = true → ∀ x, x < low →
    Memory.read m x = unlistedByte := by
  intro low m
  induction m generalizing low with
  | nil => intros; rfl
  | cons c m ih =>
    obtain ⟨k, u⟩ := c
    intro h x hx
    simp only [Memory.wfFrom, Bool.and_eq_true, decide_eq_true_eq] at h
    have hne : k ≠ x := by omega
    simp only [Memory.read, if_neg hne]
    exact ih h.2 x (by omega)

/-- A read after a write: the byte written at its own address, the old byte anywhere else. -/
theorem Memory.read_write_of_wf {size : Nat} : ∀ {low : Nat} {m : Memory}, Memory.wfFrom size low m = true →
    ∀ (a b : Nat) (v : Byte), (Memory.write m a v).read b = if a = b then v else m.read b := by
  intro low m
  induction m generalizing low with
  | nil =>
    intro _ a b v
    by_cases hv : v = unlistedByte
    · simp [Memory.write, hv, Memory.read]
    · simp [Memory.write, hv, Memory.read]
  | cons c m ih =>
    obtain ⟨k, u⟩ := c
    intro h a b v
    simp only [Memory.wfFrom, Bool.and_eq_true, decide_eq_true_eq] at h
    obtain ⟨⟨⟨_, _⟩, _⟩, hm⟩ := h
    unfold Memory.write
    by_cases h1 : a < k
    · simp only [if_pos h1]
      by_cases hv : v = unlistedByte
      · simp only [if_pos hv]
        by_cases hab : a = b
        · subst hab
          have hne : k ≠ a := by omega
          simp only [Memory.read, if_neg hne, if_true]
          rw [hv]
          exact Memory.read_below hm a (by omega)
        · simp only [if_neg hab]
      · simp only [if_neg hv, Memory.read]
    · simp only [if_neg h1]
      by_cases h2 : k = a
      · subst h2
        simp only [if_true]
        by_cases hv : v = unlistedByte
        · simp only [if_pos hv]
          by_cases hab : k = b
          · subst hab
            simp only [if_true]
            rw [hv]
            exact Memory.read_below hm k (by omega)
          · simp only [if_neg hab, Memory.read]
        · simp only [if_neg hv, Memory.read]
          by_cases hab : k = b <;> simp [hab]
      · simp only [if_neg h2, Memory.read]
        by_cases hkb : k = b
        · subst hkb
          have : ¬ a = k := fun e => h2 e.symm
          simp [this]
        · simp only [if_neg hkb]
          exact ih hm a b v

/-- A memory whose addresses rise from `low` has them rise from anything lower. -/
theorem Memory.wfFrom_mono {size low low' : Nat} {m : Memory} (h : Memory.wfFrom size low m = true) (hl : low' ≤ low) :
    Memory.wfFrom size low' m = true := by
  cases m with
  | nil => rfl
  | cons c m =>
    obtain ⟨k, u⟩ := c
    simp only [Memory.wfFrom, Bool.and_eq_true, decide_eq_true_eq] at h ⊢
    exact ⟨⟨⟨by omega, h.1.1.2⟩, h.1.2⟩, h.2⟩

/-- A write inside the memory keeps the canonical form, from any first address at or below it. -/
theorem Memory.wfFrom_write {size : Nat} : ∀ {low : Nat} {m : Memory}, Memory.wfFrom size low m = true →
    ∀ {a : Nat} (v : Byte), low ≤ a → a < size → Memory.wfFrom size low (Memory.write m a v) = true := by
  intro low m
  induction m generalizing low with
  | nil =>
    intro _ a v hl hs
    by_cases hv : v = unlistedByte
    · simp [Memory.write, hv, Memory.wfFrom]
    · simp [Memory.write, hv, Memory.wfFrom, hl, hs]
  | cons c m ih =>
    obtain ⟨k, u⟩ := c
    intro h a v hl hs
    have h0 := h
    simp only [Memory.wfFrom, Bool.and_eq_true, decide_eq_true_eq] at h
    obtain ⟨⟨⟨h1, h2⟩, h3⟩, hm⟩ := h
    unfold Memory.write
    by_cases hak : a < k
    · simp only [if_pos hak]
      by_cases hv : v = unlistedByte
      · simpa only [if_pos hv] using h0
      · simp only [if_neg hv, Memory.wfFrom, Bool.and_eq_true, decide_eq_true_eq]
        exact ⟨⟨⟨hl, hs⟩, hv⟩, ⟨⟨by omega, h2⟩, h3⟩, hm⟩
    · simp only [if_neg hak]
      by_cases hka : k = a
      · subst hka
        simp only [if_true]
        by_cases hv : v = unlistedByte
        · simp only [if_pos hv]
          exact Memory.wfFrom_mono hm (by omega)
        · simp only [if_neg hv, Memory.wfFrom, Bool.and_eq_true, decide_eq_true_eq]
          exact ⟨⟨⟨h1, h2⟩, hv⟩, hm⟩
      · simp only [if_neg hka, Memory.wfFrom, Bool.and_eq_true, decide_eq_true_eq]
        exact ⟨⟨⟨h1, h2⟩, h3⟩, ih hm v (by omega) hs⟩

/-- A read after a write in a canonical memory. -/
theorem Memory.read_write {size : Nat} {m : Memory} (h : m.wf size = true) (a b : Nat) (v : Byte) :
    (m.write a v).read b = if a = b then v else m.read b :=
  Memory.read_write_of_wf h a b v

/-- A memory that lists nothing is in canonical form: those of State.reset, and both after ZEROIZE. -/
theorem Memory.wf_nil (size : Nat) : Memory.wf size [] = true := rfl

/-- A write inside the memory keeps the canonical form. -/
theorem Memory.wf_write {size : Nat} {m : Memory} (h : m.wf size = true) {a : Nat} (v : Byte) (ha : a < size) :
    (m.write a v).wf size = true :=
  Memory.wfFrom_write h v (Nat.zero_le a) ha

/-- A string of writes inside the memory keeps the canonical form. -/
theorem Memory.wf_writeBytes {size : Nat} (bs : List Byte) : ∀ {m : Memory} {a : Nat}, m.wf size = true →
    a + bs.length ≤ size → (m.writeBytes a bs).wf size = true := by
  induction bs with
  | nil => intro m a h _; exact h
  | cons b bs ih =>
    intro m a h hl
    simp only [List.length_cons] at hl
    exact ih (Memory.wf_write h b (by omega)) (by omega)

/-- What reads as after a string of bytes is written: the string inside, the old bytes outside. -/
theorem Memory.read_writeBytes {size : Nat} (bs : List Byte) : ∀ {m : Memory} {a : Nat}, m.wf size = true →
    a + bs.length ≤ size → ∀ x, (m.writeBytes a bs).read x =
      if h : a ≤ x ∧ x < a + bs.length then bs[x - a]'(by omega) else m.read x := by
  induction bs with
  | nil => intro m a _ _ x; simp [Memory.writeBytes]
  | cons b bs ih =>
    intro m a h hl x
    simp only [List.length_cons] at hl
    rw [Memory.writeBytes, ih (Memory.wf_write h b (by omega)) (by omega)]
    by_cases hx : a = x
    · subst hx
      simp [Memory.read_write h]
    · by_cases h1 : a + 1 ≤ x ∧ x < a + 1 + bs.length
      · have h2 : a ≤ x ∧ x < a + (b :: bs).length := by simp only [List.length_cons]; omega
        rw [dif_pos h1, dif_pos h2]
        have hs : x - a = (x - (a + 1)) + 1 := by omega
        simp [hs]
      · have h2 : ¬ (a ≤ x ∧ x < a + (b :: bs).length) := by simp only [List.length_cons]; omega
        rw [dif_neg h1, dif_neg h2, Memory.read_write h, if_neg hx]

/-- A read string has the length asked for. -/
@[simp] theorem Memory.length_readBytes (m : Memory) (n : Nat) : ∀ a, (m.readBytes a n).length = n := by
  induction n with
  | zero => intro a; rfl
  | succ n ih => intro a; simp [Memory.readBytes, ih]

/-- The bytes of a read string. -/
theorem Memory.getElem_readBytes (m : Memory) (n : Nat) : ∀ (a i : Nat) (h : i < (m.readBytes a n).length),
    (m.readBytes a n)[i] = m.read (a + i) := by
  induction n with
  | zero => intro a i h; simp [Memory.readBytes] at h
  | succ n ih =>
    intro a i h
    cases i with
    | zero => rfl
    | succ i =>
      simp only [Memory.readBytes, List.getElem_cons_succ]
      rw [ih (a + 1) i (by simp at h ⊢; omega)]
      congr 1
      omega

/-- LE_n gives n bytes. -/
@[simp] theorem length_toLE (n : Nat) : ∀ v, (toLE n v).length = n := by
  induction n with
  | zero => intro v; rfl
  | succ n ih => intro v; simp [toLE, ih]

/-- fromLE(LE_n(v)) is v modulo 256^n. -/
theorem fromLE_toLE (n : Nat) : ∀ v, fromLE (toLE n v) = v % 256 ^ n := by
  induction n with
  | zero => intro v; simp [toLE, fromLE, Nat.mod_one]
  | succ n ih =>
    intro v
    simp only [toLE, fromLE, ih, BitVec.toNat_ofNat]
    rw [show (2 : Nat) ^ 8 = 256 from rfl, pow_succ, Nat.mul_comm (256 ^ n) 256, Nat.mod_mul]

/-- A string of n bytes is an integer below 256^n. -/
theorem fromLE_lt (bs : List Byte) : fromLE bs < 256 ^ bs.length := by
  induction bs with
  | nil => simp [fromLE]
  | cons b bs ih =>
    have hb := b.isLt
    simp only [fromLE, List.length_cons, pow_succ]
    omega

/-- Byte i of a list is bits 8·i to 8·i + 7 of its little-endian integer (20_memory R62 (a)). -/
theorem fromLE_digit (bs : List Byte) : ∀ (i : Nat) (h : i < bs.length),
    bs[i].toNat = fromLE bs / 2 ^ (8 * i) % 2 ^ 8 := by
  induction bs with
  | nil => intro i h; simp at h
  | cons b bs ih =>
    intro i h
    have hb := b.isLt
    cases i with
    | zero => simp only [List.getElem_cons_zero, fromLE]; omega
    | succ i =>
      have hd : fromLE (b :: bs) / 2 ^ (8 * (i + 1)) = fromLE bs / 2 ^ (8 * i) := by
        rw [show 2 ^ (8 * (i + 1)) = 2 ^ 8 * 2 ^ (8 * i) by rw [← pow_add]; congr 1; omega, ← Nat.div_div_eq_div_mul]
        congr 1
        simp only [fromLE]
        omega
      rw [hd, List.getElem_cons_succ]
      exact ih i (by simpa using h)

/-- Bytes written little-endian read back as the integer, modulo 256^n. -/
theorem Memory.readLE_writeLE {size : Nat} {m : Memory} (h : m.wf size = true) {a n : Nat} (ha : a + n ≤ size)
    (v : Nat) : (m.writeLE a n v).readLE a n = v % 256 ^ n := by
  have hb : (m.writeLE a n v).readBytes a n = toLE n v := by
    apply List.ext_getElem
    · simp
    · intro i h1 h2
      rw [Memory.getElem_readBytes, Memory.writeLE, Memory.read_writeBytes _ h (by simpa using ha)]
      simp only [length_toLE] at h2
      have h3 : a ≤ a + i ∧ a + i < a + (toLE n v).length := by simp only [length_toLE]; omega
      rw [dif_pos h3]
      simp
  rw [Memory.readLE, hb, fromLE_toLE]

/-- A little-endian write leaves every byte outside it alone. -/
theorem Memory.read_writeLE_outside {size : Nat} {m : Memory} (h : m.wf size = true) {a n : Nat} (ha : a + n ≤ size)
    (v x : Nat) (hx : x < a ∨ a + n ≤ x) : (m.writeLE a n v).read x = m.read x := by
  rw [Memory.writeLE, Memory.read_writeBytes _ h (by simpa using ha), dif_neg]
  simp only [length_toLE]
  omega

/-- A little-endian write inside the memory keeps the canonical form. -/
theorem Memory.wf_writeLE {size : Nat} {m : Memory} (h : m.wf size = true) {a n : Nat} (ha : a + n ≤ size) (v : Nat) :
    (m.writeLE a n v).wf size = true :=
  Memory.wf_writeBytes _ h (by simpa using ha)

/-- Canonical memories that read the same everywhere are the same data. -/
theorem Memory.eq_of_read_eq {size : Nat} : ∀ {low : Nat} {m m' : Memory}, Memory.wfFrom size low m = true →
    Memory.wfFrom size low m' = true → (∀ a, m.read a = m'.read a) → m = m' := by
  intro low m
  induction m generalizing low with
  | nil =>
    intro m' _ h' he
    cases m' with
    | nil => rfl
    | cons c m' =>
      obtain ⟨k, u⟩ := c
      simp only [Memory.wfFrom, Bool.and_eq_true, decide_eq_true_eq] at h'
      have := he k
      simp only [Memory.read, if_true] at this
      exact absurd this.symm h'.1.2
  | cons c m ih =>
    obtain ⟨k, u⟩ := c
    intro m' h h' he
    simp only [Memory.wfFrom, Bool.and_eq_true, decide_eq_true_eq] at h
    cases m' with
    | nil =>
      have := he k
      simp only [Memory.read, if_true] at this
      exact absurd this h.1.2
    | cons c' m' =>
      obtain ⟨k', u'⟩ := c'
      simp only [Memory.wfFrom, Bool.and_eq_true, decide_eq_true_eq] at h'
      have hk : k = k' := by
        rcases Nat.lt_trichotomy k k' with hlt | heq | hgt
        · have := he k
          have hne : ¬ k' = k := by omega
          simp only [Memory.read, if_true, if_neg hne, Memory.read_below h'.2 k (by omega)] at this
          exact absurd this h.1.2
        · exact heq
        · have := he k'
          have hne : ¬ k = k' := by omega
          simp only [Memory.read, if_true, if_neg hne, Memory.read_below h.2 k' (by omega)] at this
          exact absurd this.symm h'.1.2
      subst hk
      have hu : u = u' := by simpa [Memory.read] using he k
      subst hu
      have : m = m' := by
        apply ih h.2 h'.2
        intro a
        by_cases hka : k = a
        · subst hka
          rw [Memory.read_below h.2 k (by omega), Memory.read_below h'.2 k (by omega)]
        · simpa [Memory.read, hka] using he a
      rw [this]

/-- Every slot lies inside DMEM (20_memory R68). -/
theorem slotAddress_inside (n : Slot) : slotAddress n + Config.slotBytes ≤ Config.dmemBytes := by
  have := n.isLt
  simp only [slotAddress, Config.slotBytes, Config.dmemBytes]
  omega

end Sys2Proof.Machine
end

