-- ==== Sys2Proof/Laws/State.lean ====
section
/-! SUPPORT. The small lemmas of State: one per field per update, true by rfl, and what each register accessor reads
after each update. No later proof unfolds a record update. -/

namespace Sys2Proof.Machine

/-! ### setF -/

@[simp] theorem State.setF_fReg (s : State) (i : FReg) (v : Fe) : (s.setF i v).fReg = s.fReg.set i.val v := rfl
@[simp] theorem State.setF_sReg (s : State) (i : FReg) (v : Fe) : (s.setF i v).sReg = s.sReg := rfl
@[simp] theorem State.setF_pReg (s : State) (i : FReg) (v : Fe) : (s.setF i v).pReg = s.pReg := rfl
@[simp] theorem State.setF_cReg (s : State) (i : FReg) (v : Fe) : (s.setF i v).cReg = s.cReg := rfl
@[simp] theorem State.setF_pc (s : State) (i : FReg) (v : Fe) : (s.setF i v).pc = s.pc := rfl
@[simp] theorem State.setF_imem (s : State) (i : FReg) (v : Fe) : (s.setF i v).imem = s.imem := rfl
@[simp] theorem State.setF_dmem (s : State) (i : FReg) (v : Fe) : (s.setF i v).dmem = s.dmem := rfl
@[simp] theorem State.setF_abortReq (s : State) (i : FReg) (v : Fe) : (s.setF i v).abortReq = s.abortReq := rfl
@[simp] theorem State.setF_ie (s : State) (i : FReg) (v : Fe) : (s.setF i v).ie = s.ie := rfl
@[simp] theorem State.setF_busy (s : State) (i : FReg) (v : Fe) : (s.setF i v).busy = s.busy := rfl
@[simp] theorem State.setF_done (s : State) (i : FReg) (v : Fe) : (s.setF i v).done = s.done := rfl
@[simp] theorem State.setF_fault (s : State) (i : FReg) (v : Fe) : (s.setF i v).fault = s.fault := rfl
@[simp] theorem State.setF_herr (s : State) (i : FReg) (v : Fe) : (s.setF i v).herr = s.herr := rfl
@[simp] theorem State.setF_startPc (s : State) (i : FReg) (v : Fe) : (s.setF i v).startPc = s.startPc := rfl
@[simp] theorem State.setF_faultCause (s : State) (i : FReg) (v : Fe) : (s.setF i v).faultCause = s.faultCause := rfl
@[simp] theorem State.setF_faultPc (s : State) (i : FReg) (v : Fe) : (s.setF i v).faultPc = s.faultPc := rfl
@[simp] theorem State.setF_faultInsn (s : State) (i : FReg) (v : Fe) : (s.setF i v).faultInsn = s.faultInsn := rfl
@[simp] theorem State.setF_schedule (s : State) (i : FReg) (v : Fe) : (s.setF i v).schedule = s.schedule := rfl
@[simp] theorem State.setF_readData (s : State) (i : FReg) (v : Fe) : (s.setF i v).readData = s.readData := rfl
@[simp] theorem State.setF_draws (s : State) (i : FReg) (v : Fe) : (s.setF i v).draws = s.draws := rfl

/-! ### setS -/

@[simp] theorem State.setS_fReg (s : State) (i : SReg) (v : Scalar) : (s.setS i v).fReg = s.fReg := rfl
@[simp] theorem State.setS_sReg (s : State) (i : SReg) (v : Scalar) : (s.setS i v).sReg = s.sReg.set i.val v := rfl
@[simp] theorem State.setS_pReg (s : State) (i : SReg) (v : Scalar) : (s.setS i v).pReg = s.pReg := rfl
@[simp] theorem State.setS_cReg (s : State) (i : SReg) (v : Scalar) : (s.setS i v).cReg = s.cReg := rfl
@[simp] theorem State.setS_pc (s : State) (i : SReg) (v : Scalar) : (s.setS i v).pc = s.pc := rfl
@[simp] theorem State.setS_imem (s : State) (i : SReg) (v : Scalar) : (s.setS i v).imem = s.imem := rfl
@[simp] theorem State.setS_dmem (s : State) (i : SReg) (v : Scalar) : (s.setS i v).dmem = s.dmem := rfl
@[simp] theorem State.setS_abortReq (s : State) (i : SReg) (v : Scalar) : (s.setS i v).abortReq = s.abortReq := rfl
@[simp] theorem State.setS_ie (s : State) (i : SReg) (v : Scalar) : (s.setS i v).ie = s.ie := rfl
@[simp] theorem State.setS_busy (s : State) (i : SReg) (v : Scalar) : (s.setS i v).busy = s.busy := rfl
@[simp] theorem State.setS_done (s : State) (i : SReg) (v : Scalar) : (s.setS i v).done = s.done := rfl
@[simp] theorem State.setS_fault (s : State) (i : SReg) (v : Scalar) : (s.setS i v).fault = s.fault := rfl
@[simp] theorem State.setS_herr (s : State) (i : SReg) (v : Scalar) : (s.setS i v).herr = s.herr := rfl
@[simp] theorem State.setS_startPc (s : State) (i : SReg) (v : Scalar) : (s.setS i v).startPc = s.startPc := rfl
@[simp] theorem State.setS_faultCause (s : State) (i : SReg) (v : Scalar) : (s.setS i v).faultCause = s.faultCause := rfl
@[simp] theorem State.setS_faultPc (s : State) (i : SReg) (v : Scalar) : (s.setS i v).faultPc = s.faultPc := rfl
@[simp] theorem State.setS_faultInsn (s : State) (i : SReg) (v : Scalar) : (s.setS i v).faultInsn = s.faultInsn := rfl
@[simp] theorem State.setS_schedule (s : State) (i : SReg) (v : Scalar) : (s.setS i v).schedule = s.schedule := rfl
@[simp] theorem State.setS_readData (s : State) (i : SReg) (v : Scalar) : (s.setS i v).readData = s.readData := rfl
@[simp] theorem State.setS_draws (s : State) (i : SReg) (v : Scalar) : (s.setS i v).draws = s.draws := rfl

/-! ### setP -/

@[simp] theorem State.setP_fReg (s : State) (i : PReg) (v : Point) : (s.setP i v).fReg = s.fReg := rfl
@[simp] theorem State.setP_sReg (s : State) (i : PReg) (v : Point) : (s.setP i v).sReg = s.sReg := rfl
@[simp] theorem State.setP_pReg (s : State) (i : PReg) (v : Point) : (s.setP i v).pReg = s.pReg.set i.val v := rfl
@[simp] theorem State.setP_cReg (s : State) (i : PReg) (v : Point) : (s.setP i v).cReg = s.cReg := rfl
@[simp] theorem State.setP_pc (s : State) (i : PReg) (v : Point) : (s.setP i v).pc = s.pc := rfl
@[simp] theorem State.setP_imem (s : State) (i : PReg) (v : Point) : (s.setP i v).imem = s.imem := rfl
@[simp] theorem State.setP_dmem (s : State) (i : PReg) (v : Point) : (s.setP i v).dmem = s.dmem := rfl
@[simp] theorem State.setP_abortReq (s : State) (i : PReg) (v : Point) : (s.setP i v).abortReq = s.abortReq := rfl
@[simp] theorem State.setP_ie (s : State) (i : PReg) (v : Point) : (s.setP i v).ie = s.ie := rfl
@[simp] theorem State.setP_busy (s : State) (i : PReg) (v : Point) : (s.setP i v).busy = s.busy := rfl
@[simp] theorem State.setP_done (s : State) (i : PReg) (v : Point) : (s.setP i v).done = s.done := rfl
@[simp] theorem State.setP_fault (s : State) (i : PReg) (v : Point) : (s.setP i v).fault = s.fault := rfl
@[simp] theorem State.setP_herr (s : State) (i : PReg) (v : Point) : (s.setP i v).herr = s.herr := rfl
@[simp] theorem State.setP_startPc (s : State) (i : PReg) (v : Point) : (s.setP i v).startPc = s.startPc := rfl
@[simp] theorem State.setP_faultCause (s : State) (i : PReg) (v : Point) : (s.setP i v).faultCause = s.faultCause := rfl
@[simp] theorem State.setP_faultPc (s : State) (i : PReg) (v : Point) : (s.setP i v).faultPc = s.faultPc := rfl
@[simp] theorem State.setP_faultInsn (s : State) (i : PReg) (v : Point) : (s.setP i v).faultInsn = s.faultInsn := rfl
@[simp] theorem State.setP_schedule (s : State) (i : PReg) (v : Point) : (s.setP i v).schedule = s.schedule := rfl
@[simp] theorem State.setP_readData (s : State) (i : PReg) (v : Point) : (s.setP i v).readData = s.readData := rfl
@[simp] theorem State.setP_draws (s : State) (i : PReg) (v : Point) : (s.setP i v).draws = s.draws := rfl

/-! ### setC -/

@[simp] theorem State.setC_fReg (s : State) (i : CReg) (v : Bool) : (s.setC i v).fReg = s.fReg := rfl
@[simp] theorem State.setC_sReg (s : State) (i : CReg) (v : Bool) : (s.setC i v).sReg = s.sReg := rfl
@[simp] theorem State.setC_pReg (s : State) (i : CReg) (v : Bool) : (s.setC i v).pReg = s.pReg := rfl
@[simp] theorem State.setC_cReg (s : State) (i : CReg) (v : Bool) : (s.setC i v).cReg = s.cReg.set i.val v := rfl
@[simp] theorem State.setC_pc (s : State) (i : CReg) (v : Bool) : (s.setC i v).pc = s.pc := rfl
@[simp] theorem State.setC_imem (s : State) (i : CReg) (v : Bool) : (s.setC i v).imem = s.imem := rfl
@[simp] theorem State.setC_dmem (s : State) (i : CReg) (v : Bool) : (s.setC i v).dmem = s.dmem := rfl
@[simp] theorem State.setC_abortReq (s : State) (i : CReg) (v : Bool) : (s.setC i v).abortReq = s.abortReq := rfl
@[simp] theorem State.setC_ie (s : State) (i : CReg) (v : Bool) : (s.setC i v).ie = s.ie := rfl
@[simp] theorem State.setC_busy (s : State) (i : CReg) (v : Bool) : (s.setC i v).busy = s.busy := rfl
@[simp] theorem State.setC_done (s : State) (i : CReg) (v : Bool) : (s.setC i v).done = s.done := rfl
@[simp] theorem State.setC_fault (s : State) (i : CReg) (v : Bool) : (s.setC i v).fault = s.fault := rfl
@[simp] theorem State.setC_herr (s : State) (i : CReg) (v : Bool) : (s.setC i v).herr = s.herr := rfl
@[simp] theorem State.setC_startPc (s : State) (i : CReg) (v : Bool) : (s.setC i v).startPc = s.startPc := rfl
@[simp] theorem State.setC_faultCause (s : State) (i : CReg) (v : Bool) : (s.setC i v).faultCause = s.faultCause := rfl
@[simp] theorem State.setC_faultPc (s : State) (i : CReg) (v : Bool) : (s.setC i v).faultPc = s.faultPc := rfl
@[simp] theorem State.setC_faultInsn (s : State) (i : CReg) (v : Bool) : (s.setC i v).faultInsn = s.faultInsn := rfl
@[simp] theorem State.setC_schedule (s : State) (i : CReg) (v : Bool) : (s.setC i v).schedule = s.schedule := rfl
@[simp] theorem State.setC_readData (s : State) (i : CReg) (v : Bool) : (s.setC i v).readData = s.readData := rfl
@[simp] theorem State.setC_draws (s : State) (i : CReg) (v : Bool) : (s.setC i v).draws = s.draws := rfl

/-! ### setConds -/

@[simp] theorem State.setConds_fReg (s : State) (cs : Vector Bool 16) : (s.setConds cs).fReg = s.fReg := rfl
@[simp] theorem State.setConds_sReg (s : State) (cs : Vector Bool 16) : (s.setConds cs).sReg = s.sReg := rfl
@[simp] theorem State.setConds_pReg (s : State) (cs : Vector Bool 16) : (s.setConds cs).pReg = s.pReg := rfl
@[simp] theorem State.setConds_cReg (s : State) (cs : Vector Bool 16) : (s.setConds cs).cReg = cs := rfl
@[simp] theorem State.setConds_pc (s : State) (cs : Vector Bool 16) : (s.setConds cs).pc = s.pc := rfl
@[simp] theorem State.setConds_imem (s : State) (cs : Vector Bool 16) : (s.setConds cs).imem = s.imem := rfl
@[simp] theorem State.setConds_dmem (s : State) (cs : Vector Bool 16) : (s.setConds cs).dmem = s.dmem := rfl
@[simp] theorem State.setConds_abortReq (s : State) (cs : Vector Bool 16) : (s.setConds cs).abortReq = s.abortReq := rfl
@[simp] theorem State.setConds_ie (s : State) (cs : Vector Bool 16) : (s.setConds cs).ie = s.ie := rfl
@[simp] theorem State.setConds_busy (s : State) (cs : Vector Bool 16) : (s.setConds cs).busy = s.busy := rfl
@[simp] theorem State.setConds_done (s : State) (cs : Vector Bool 16) : (s.setConds cs).done = s.done := rfl
@[simp] theorem State.setConds_fault (s : State) (cs : Vector Bool 16) : (s.setConds cs).fault = s.fault := rfl
@[simp] theorem State.setConds_herr (s : State) (cs : Vector Bool 16) : (s.setConds cs).herr = s.herr := rfl
@[simp] theorem State.setConds_startPc (s : State) (cs : Vector Bool 16) : (s.setConds cs).startPc = s.startPc := rfl
@[simp] theorem State.setConds_faultCause (s : State) (cs : Vector Bool 16) : (s.setConds cs).faultCause = s.faultCause := rfl
@[simp] theorem State.setConds_faultPc (s : State) (cs : Vector Bool 16) : (s.setConds cs).faultPc = s.faultPc := rfl
@[simp] theorem State.setConds_faultInsn (s : State) (cs : Vector Bool 16) : (s.setConds cs).faultInsn = s.faultInsn := rfl
@[simp] theorem State.setConds_schedule (s : State) (cs : Vector Bool 16) : (s.setConds cs).schedule = s.schedule := rfl
@[simp] theorem State.setConds_readData (s : State) (cs : Vector Bool 16) : (s.setConds cs).readData = s.readData := rfl
@[simp] theorem State.setConds_draws (s : State) (cs : Vector Bool 16) : (s.setConds cs).draws = s.draws := rfl

/-! ### clearRegs -/

@[simp] theorem State.clearRegs_fReg (s : State) : s.clearRegs.fReg = Vector.replicate 16 feZero := rfl
@[simp] theorem State.clearRegs_sReg (s : State) : s.clearRegs.sReg = Vector.replicate 16 0#256 := rfl
@[simp] theorem State.clearRegs_pReg (s : State) : s.clearRegs.pReg = Vector.replicate 16 neutral := rfl
@[simp] theorem State.clearRegs_cReg (s : State) : s.clearRegs.cReg = Vector.replicate 16 false := rfl
@[simp] theorem State.clearRegs_pc (s : State) : s.clearRegs.pc = s.pc := rfl
@[simp] theorem State.clearRegs_imem (s : State) : s.clearRegs.imem = s.imem := rfl
@[simp] theorem State.clearRegs_dmem (s : State) : s.clearRegs.dmem = s.dmem := rfl
@[simp] theorem State.clearRegs_abortReq (s : State) : s.clearRegs.abortReq = s.abortReq := rfl
@[simp] theorem State.clearRegs_ie (s : State) : s.clearRegs.ie = s.ie := rfl
@[simp] theorem State.clearRegs_busy (s : State) : s.clearRegs.busy = s.busy := rfl
@[simp] theorem State.clearRegs_done (s : State) : s.clearRegs.done = s.done := rfl
@[simp] theorem State.clearRegs_fault (s : State) : s.clearRegs.fault = s.fault := rfl
@[simp] theorem State.clearRegs_herr (s : State) : s.clearRegs.herr = s.herr := rfl
@[simp] theorem State.clearRegs_startPc (s : State) : s.clearRegs.startPc = s.startPc := rfl
@[simp] theorem State.clearRegs_faultCause (s : State) : s.clearRegs.faultCause = s.faultCause := rfl
@[simp] theorem State.clearRegs_faultPc (s : State) : s.clearRegs.faultPc = s.faultPc := rfl
@[simp] theorem State.clearRegs_faultInsn (s : State) : s.clearRegs.faultInsn = s.faultInsn := rfl
@[simp] theorem State.clearRegs_schedule (s : State) : s.clearRegs.schedule = s.schedule := rfl
@[simp] theorem State.clearRegs_readData (s : State) : s.clearRegs.readData = s.readData := rfl
@[simp] theorem State.clearRegs_draws (s : State) : s.clearRegs.draws = s.draws := rfl

/-! ### setDmem -/

@[simp] theorem State.setDmem_fReg (s : State) (m : Memory) : (s.setDmem m).fReg = s.fReg := rfl
@[simp] theorem State.setDmem_sReg (s : State) (m : Memory) : (s.setDmem m).sReg = s.sReg := rfl
@[simp] theorem State.setDmem_pReg (s : State) (m : Memory) : (s.setDmem m).pReg = s.pReg := rfl
@[simp] theorem State.setDmem_cReg (s : State) (m : Memory) : (s.setDmem m).cReg = s.cReg := rfl
@[simp] theorem State.setDmem_pc (s : State) (m : Memory) : (s.setDmem m).pc = s.pc := rfl
@[simp] theorem State.setDmem_imem (s : State) (m : Memory) : (s.setDmem m).imem = s.imem := rfl
@[simp] theorem State.setDmem_dmem (s : State) (m : Memory) : (s.setDmem m).dmem = m := rfl
@[simp] theorem State.setDmem_abortReq (s : State) (m : Memory) : (s.setDmem m).abortReq = s.abortReq := rfl
@[simp] theorem State.setDmem_ie (s : State) (m : Memory) : (s.setDmem m).ie = s.ie := rfl
@[simp] theorem State.setDmem_busy (s : State) (m : Memory) : (s.setDmem m).busy = s.busy := rfl
@[simp] theorem State.setDmem_done (s : State) (m : Memory) : (s.setDmem m).done = s.done := rfl
@[simp] theorem State.setDmem_fault (s : State) (m : Memory) : (s.setDmem m).fault = s.fault := rfl
@[simp] theorem State.setDmem_herr (s : State) (m : Memory) : (s.setDmem m).herr = s.herr := rfl
@[simp] theorem State.setDmem_startPc (s : State) (m : Memory) : (s.setDmem m).startPc = s.startPc := rfl
@[simp] theorem State.setDmem_faultCause (s : State) (m : Memory) : (s.setDmem m).faultCause = s.faultCause := rfl
@[simp] theorem State.setDmem_faultPc (s : State) (m : Memory) : (s.setDmem m).faultPc = s.faultPc := rfl
@[simp] theorem State.setDmem_faultInsn (s : State) (m : Memory) : (s.setDmem m).faultInsn = s.faultInsn := rfl
@[simp] theorem State.setDmem_schedule (s : State) (m : Memory) : (s.setDmem m).schedule = s.schedule := rfl
@[simp] theorem State.setDmem_readData (s : State) (m : Memory) : (s.setDmem m).readData = s.readData := rfl
@[simp] theorem State.setDmem_draws (s : State) (m : Memory) : (s.setDmem m).draws = s.draws := rfl

/-! ### setImem -/

@[simp] theorem State.setImem_fReg (s : State) (m : Memory) : (s.setImem m).fReg = s.fReg := rfl
@[simp] theorem State.setImem_sReg (s : State) (m : Memory) : (s.setImem m).sReg = s.sReg := rfl
@[simp] theorem State.setImem_pReg (s : State) (m : Memory) : (s.setImem m).pReg = s.pReg := rfl
@[simp] theorem State.setImem_cReg (s : State) (m : Memory) : (s.setImem m).cReg = s.cReg := rfl
@[simp] theorem State.setImem_pc (s : State) (m : Memory) : (s.setImem m).pc = s.pc := rfl
@[simp] theorem State.setImem_imem (s : State) (m : Memory) : (s.setImem m).imem = m := rfl
@[simp] theorem State.setImem_dmem (s : State) (m : Memory) : (s.setImem m).dmem = s.dmem := rfl
@[simp] theorem State.setImem_abortReq (s : State) (m : Memory) : (s.setImem m).abortReq = s.abortReq := rfl
@[simp] theorem State.setImem_ie (s : State) (m : Memory) : (s.setImem m).ie = s.ie := rfl
@[simp] theorem State.setImem_busy (s : State) (m : Memory) : (s.setImem m).busy = s.busy := rfl
@[simp] theorem State.setImem_done (s : State) (m : Memory) : (s.setImem m).done = s.done := rfl
@[simp] theorem State.setImem_fault (s : State) (m : Memory) : (s.setImem m).fault = s.fault := rfl
@[simp] theorem State.setImem_herr (s : State) (m : Memory) : (s.setImem m).herr = s.herr := rfl
@[simp] theorem State.setImem_startPc (s : State) (m : Memory) : (s.setImem m).startPc = s.startPc := rfl
@[simp] theorem State.setImem_faultCause (s : State) (m : Memory) : (s.setImem m).faultCause = s.faultCause := rfl
@[simp] theorem State.setImem_faultPc (s : State) (m : Memory) : (s.setImem m).faultPc = s.faultPc := rfl
@[simp] theorem State.setImem_faultInsn (s : State) (m : Memory) : (s.setImem m).faultInsn = s.faultInsn := rfl
@[simp] theorem State.setImem_schedule (s : State) (m : Memory) : (s.setImem m).schedule = s.schedule := rfl
@[simp] theorem State.setImem_readData (s : State) (m : Memory) : (s.setImem m).readData = s.readData := rfl
@[simp] theorem State.setImem_draws (s : State) (m : Memory) : (s.setImem m).draws = s.draws := rfl

/-! ### writeSlot -/

@[simp] theorem State.writeSlot_fReg (s : State) (n : Slot) (v : Nat) : (s.writeSlot n v).fReg = s.fReg := State.setDmem_fReg s _
@[simp] theorem State.writeSlot_sReg (s : State) (n : Slot) (v : Nat) : (s.writeSlot n v).sReg = s.sReg := State.setDmem_sReg s _
@[simp] theorem State.writeSlot_pReg (s : State) (n : Slot) (v : Nat) : (s.writeSlot n v).pReg = s.pReg := State.setDmem_pReg s _
@[simp] theorem State.writeSlot_cReg (s : State) (n : Slot) (v : Nat) : (s.writeSlot n v).cReg = s.cReg := State.setDmem_cReg s _
@[simp] theorem State.writeSlot_pc (s : State) (n : Slot) (v : Nat) : (s.writeSlot n v).pc = s.pc := State.setDmem_pc s _
@[simp] theorem State.writeSlot_imem (s : State) (n : Slot) (v : Nat) : (s.writeSlot n v).imem = s.imem := State.setDmem_imem s _
@[simp] theorem State.writeSlot_dmem (s : State) (n : Slot) (v : Nat) : (s.writeSlot n v).dmem = s.dmem.writeLE (slotAddress n) Config.slotBytes v := State.setDmem_dmem s _
@[simp] theorem State.writeSlot_abortReq (s : State) (n : Slot) (v : Nat) : (s.writeSlot n v).abortReq = s.abortReq := State.setDmem_abortReq s _
@[simp] theorem State.writeSlot_ie (s : State) (n : Slot) (v : Nat) : (s.writeSlot n v).ie = s.ie := State.setDmem_ie s _
@[simp] theorem State.writeSlot_busy (s : State) (n : Slot) (v : Nat) : (s.writeSlot n v).busy = s.busy := State.setDmem_busy s _
@[simp] theorem State.writeSlot_done (s : State) (n : Slot) (v : Nat) : (s.writeSlot n v).done = s.done := State.setDmem_done s _
@[simp] theorem State.writeSlot_fault (s : State) (n : Slot) (v : Nat) : (s.writeSlot n v).fault = s.fault := State.setDmem_fault s _
@[simp] theorem State.writeSlot_herr (s : State) (n : Slot) (v : Nat) : (s.writeSlot n v).herr = s.herr := State.setDmem_herr s _
@[simp] theorem State.writeSlot_startPc (s : State) (n : Slot) (v : Nat) : (s.writeSlot n v).startPc = s.startPc := State.setDmem_startPc s _
@[simp] theorem State.writeSlot_faultCause (s : State) (n : Slot) (v : Nat) : (s.writeSlot n v).faultCause = s.faultCause := State.setDmem_faultCause s _
@[simp] theorem State.writeSlot_faultPc (s : State) (n : Slot) (v : Nat) : (s.writeSlot n v).faultPc = s.faultPc := State.setDmem_faultPc s _
@[simp] theorem State.writeSlot_faultInsn (s : State) (n : Slot) (v : Nat) : (s.writeSlot n v).faultInsn = s.faultInsn := State.setDmem_faultInsn s _
@[simp] theorem State.writeSlot_schedule (s : State) (n : Slot) (v : Nat) : (s.writeSlot n v).schedule = s.schedule := State.setDmem_schedule s _
@[simp] theorem State.writeSlot_readData (s : State) (n : Slot) (v : Nat) : (s.writeSlot n v).readData = s.readData := State.setDmem_readData s _
@[simp] theorem State.writeSlot_draws (s : State) (n : Slot) (v : Nat) : (s.writeSlot n v).draws = s.draws := State.setDmem_draws s _

/-! ### advance -/

@[simp] theorem State.advance_fReg (s : State) : s.advance.fReg = s.fReg := rfl
@[simp] theorem State.advance_sReg (s : State) : s.advance.sReg = s.sReg := rfl
@[simp] theorem State.advance_pReg (s : State) : s.advance.pReg = s.pReg := rfl
@[simp] theorem State.advance_cReg (s : State) : s.advance.cReg = s.cReg := rfl
@[simp] theorem State.advance_pc (s : State) : s.advance.pc = s.pc + 4#13 := rfl
@[simp] theorem State.advance_imem (s : State) : s.advance.imem = s.imem := rfl
@[simp] theorem State.advance_dmem (s : State) : s.advance.dmem = s.dmem := rfl
@[simp] theorem State.advance_abortReq (s : State) : s.advance.abortReq = s.abortReq := rfl
@[simp] theorem State.advance_ie (s : State) : s.advance.ie = s.ie := rfl
@[simp] theorem State.advance_busy (s : State) : s.advance.busy = s.busy := rfl
@[simp] theorem State.advance_done (s : State) : s.advance.done = s.done := rfl
@[simp] theorem State.advance_fault (s : State) : s.advance.fault = s.fault := rfl
@[simp] theorem State.advance_herr (s : State) : s.advance.herr = s.herr := rfl
@[simp] theorem State.advance_startPc (s : State) : s.advance.startPc = s.startPc := rfl
@[simp] theorem State.advance_faultCause (s : State) : s.advance.faultCause = s.faultCause := rfl
@[simp] theorem State.advance_faultPc (s : State) : s.advance.faultPc = s.faultPc := rfl
@[simp] theorem State.advance_faultInsn (s : State) : s.advance.faultInsn = s.faultInsn := rfl
@[simp] theorem State.advance_schedule (s : State) : s.advance.schedule = s.schedule := rfl
@[simp] theorem State.advance_readData (s : State) : s.advance.readData = s.readData := rfl
@[simp] theorem State.advance_draws (s : State) : s.advance.draws = s.draws := rfl

/-! ### finishRun -/

@[simp] theorem State.finishRun_fReg (s : State) : s.finishRun.fReg = s.fReg := rfl
@[simp] theorem State.finishRun_sReg (s : State) : s.finishRun.sReg = s.sReg := rfl
@[simp] theorem State.finishRun_pReg (s : State) : s.finishRun.pReg = s.pReg := rfl
@[simp] theorem State.finishRun_cReg (s : State) : s.finishRun.cReg = s.cReg := rfl
@[simp] theorem State.finishRun_pc (s : State) : s.finishRun.pc = s.pc := rfl
@[simp] theorem State.finishRun_imem (s : State) : s.finishRun.imem = s.imem := rfl
@[simp] theorem State.finishRun_dmem (s : State) : s.finishRun.dmem = s.dmem := rfl
@[simp] theorem State.finishRun_abortReq (s : State) : s.finishRun.abortReq = s.abortReq := rfl
@[simp] theorem State.finishRun_ie (s : State) : s.finishRun.ie = s.ie := rfl
@[simp] theorem State.finishRun_busy (s : State) : s.finishRun.busy = false := rfl
@[simp] theorem State.finishRun_done (s : State) : s.finishRun.done = true := rfl
@[simp] theorem State.finishRun_fault (s : State) : s.finishRun.fault = s.fault := rfl
@[simp] theorem State.finishRun_herr (s : State) : s.finishRun.herr = s.herr := rfl
@[simp] theorem State.finishRun_startPc (s : State) : s.finishRun.startPc = s.startPc := rfl
@[simp] theorem State.finishRun_faultCause (s : State) : s.finishRun.faultCause = s.faultCause := rfl
@[simp] theorem State.finishRun_faultPc (s : State) : s.finishRun.faultPc = s.faultPc := rfl
@[simp] theorem State.finishRun_faultInsn (s : State) : s.finishRun.faultInsn = s.faultInsn := rfl
@[simp] theorem State.finishRun_schedule (s : State) : s.finishRun.schedule = s.schedule := rfl
@[simp] theorem State.finishRun_readData (s : State) : s.finishRun.readData = s.readData := rfl
@[simp] theorem State.finishRun_draws (s : State) : s.finishRun.draws = s.draws := rfl

/-! ### raiseFault -/

@[simp] theorem State.raiseFault_fReg (s : State) (c : FaultCause) (w : Word) : (s.raiseFault c w).fReg = s.fReg := rfl
@[simp] theorem State.raiseFault_sReg (s : State) (c : FaultCause) (w : Word) : (s.raiseFault c w).sReg = s.sReg := rfl
@[simp] theorem State.raiseFault_pReg (s : State) (c : FaultCause) (w : Word) : (s.raiseFault c w).pReg = s.pReg := rfl
@[simp] theorem State.raiseFault_cReg (s : State) (c : FaultCause) (w : Word) : (s.raiseFault c w).cReg = s.cReg := rfl
@[simp] theorem State.raiseFault_pc (s : State) (c : FaultCause) (w : Word) : (s.raiseFault c w).pc = s.pc := rfl
@[simp] theorem State.raiseFault_imem (s : State) (c : FaultCause) (w : Word) : (s.raiseFault c w).imem = s.imem := rfl
@[simp] theorem State.raiseFault_dmem (s : State) (c : FaultCause) (w : Word) : (s.raiseFault c w).dmem = s.dmem := rfl
@[simp] theorem State.raiseFault_abortReq (s : State) (c : FaultCause) (w : Word) : (s.raiseFault c w).abortReq = s.abortReq := rfl
@[simp] theorem State.raiseFault_ie (s : State) (c : FaultCause) (w : Word) : (s.raiseFault c w).ie = s.ie := rfl
@[simp] theorem State.raiseFault_busy (s : State) (c : FaultCause) (w : Word) : (s.raiseFault c w).busy = false := rfl
@[simp] theorem State.raiseFault_done (s : State) (c : FaultCause) (w : Word) : (s.raiseFault c w).done = s.done := rfl
@[simp] theorem State.raiseFault_fault (s : State) (c : FaultCause) (w : Word) : (s.raiseFault c w).fault = true := rfl
@[simp] theorem State.raiseFault_herr (s : State) (c : FaultCause) (w : Word) : (s.raiseFault c w).herr = s.herr := rfl
@[simp] theorem State.raiseFault_startPc (s : State) (c : FaultCause) (w : Word) : (s.raiseFault c w).startPc = s.startPc := rfl
@[simp] theorem State.raiseFault_faultCause (s : State) (c : FaultCause) (w : Word) : (s.raiseFault c w).faultCause = c := rfl
@[simp] theorem State.raiseFault_faultPc (s : State) (c : FaultCause) (w : Word) : (s.raiseFault c w).faultPc = s.pc := rfl
@[simp] theorem State.raiseFault_faultInsn (s : State) (c : FaultCause) (w : Word) : (s.raiseFault c w).faultInsn = recordedWord c w := rfl
@[simp] theorem State.raiseFault_schedule (s : State) (c : FaultCause) (w : Word) : (s.raiseFault c w).schedule = s.schedule := rfl
@[simp] theorem State.raiseFault_readData (s : State) (c : FaultCause) (w : Word) : (s.raiseFault c w).readData = s.readData := rfl
@[simp] theorem State.raiseFault_draws (s : State) (c : FaultCause) (w : Word) : (s.raiseFault c w).draws = s.draws := rfl

/-! ### consumeAbort -/

@[simp] theorem State.consumeAbort_fReg (s : State) : s.consumeAbort.fReg = s.fReg := rfl
@[simp] theorem State.consumeAbort_sReg (s : State) : s.consumeAbort.sReg = s.sReg := rfl
@[simp] theorem State.consumeAbort_pReg (s : State) : s.consumeAbort.pReg = s.pReg := rfl
@[simp] theorem State.consumeAbort_cReg (s : State) : s.consumeAbort.cReg = s.cReg := rfl
@[simp] theorem State.consumeAbort_pc (s : State) : s.consumeAbort.pc = s.pc := rfl
@[simp] theorem State.consumeAbort_imem (s : State) : s.consumeAbort.imem = s.imem := rfl
@[simp] theorem State.consumeAbort_dmem (s : State) : s.consumeAbort.dmem = s.dmem := rfl
@[simp] theorem State.consumeAbort_abortReq (s : State) : s.consumeAbort.abortReq = false := rfl
@[simp] theorem State.consumeAbort_ie (s : State) : s.consumeAbort.ie = s.ie := rfl
@[simp] theorem State.consumeAbort_busy (s : State) : s.consumeAbort.busy = s.busy := rfl
@[simp] theorem State.consumeAbort_done (s : State) : s.consumeAbort.done = s.done := rfl
@[simp] theorem State.consumeAbort_fault (s : State) : s.consumeAbort.fault = s.fault := rfl
@[simp] theorem State.consumeAbort_herr (s : State) : s.consumeAbort.herr = s.herr := rfl
@[simp] theorem State.consumeAbort_startPc (s : State) : s.consumeAbort.startPc = s.startPc := rfl
@[simp] theorem State.consumeAbort_faultCause (s : State) : s.consumeAbort.faultCause = s.faultCause := rfl
@[simp] theorem State.consumeAbort_faultPc (s : State) : s.consumeAbort.faultPc = s.faultPc := rfl
@[simp] theorem State.consumeAbort_faultInsn (s : State) : s.consumeAbort.faultInsn = s.faultInsn := rfl
@[simp] theorem State.consumeAbort_schedule (s : State) : s.consumeAbort.schedule = s.schedule := rfl
@[simp] theorem State.consumeAbort_readData (s : State) : s.consumeAbort.readData = s.readData := rfl
@[simp] theorem State.consumeAbort_draws (s : State) : s.consumeAbort.draws = s.draws := rfl

/-! ### startRun -/

@[simp] theorem State.startRun_fReg (s : State) : s.startRun.fReg = s.fReg := rfl
@[simp] theorem State.startRun_sReg (s : State) : s.startRun.sReg = s.sReg := rfl
@[simp] theorem State.startRun_pReg (s : State) : s.startRun.pReg = s.pReg := rfl
@[simp] theorem State.startRun_cReg (s : State) : s.startRun.cReg = s.cReg := rfl
@[simp] theorem State.startRun_pc (s : State) : s.startRun.pc = s.startAddress := rfl
@[simp] theorem State.startRun_imem (s : State) : s.startRun.imem = s.imem := rfl
@[simp] theorem State.startRun_dmem (s : State) : s.startRun.dmem = s.dmem := rfl
@[simp] theorem State.startRun_abortReq (s : State) : s.startRun.abortReq = false := rfl
@[simp] theorem State.startRun_ie (s : State) : s.startRun.ie = s.ie := rfl
@[simp] theorem State.startRun_busy (s : State) : s.startRun.busy = true := rfl
@[simp] theorem State.startRun_done (s : State) : s.startRun.done = false := rfl
@[simp] theorem State.startRun_fault (s : State) : s.startRun.fault = false := rfl
@[simp] theorem State.startRun_herr (s : State) : s.startRun.herr = s.herr := rfl
@[simp] theorem State.startRun_startPc (s : State) : s.startRun.startPc = s.startPc := rfl
@[simp] theorem State.startRun_faultCause (s : State) : s.startRun.faultCause = .none := rfl
@[simp] theorem State.startRun_faultPc (s : State) : s.startRun.faultPc = 0#13 := rfl
@[simp] theorem State.startRun_faultInsn (s : State) : s.startRun.faultInsn = 0#32 := rfl
@[simp] theorem State.startRun_schedule (s : State) : s.startRun.schedule = s.schedule := rfl
@[simp] theorem State.startRun_readData (s : State) : s.startRun.readData = s.readData := rfl
@[simp] theorem State.startRun_draws (s : State) : s.startRun.draws = s.draws := rfl

/-! ### setHerr -/

@[simp] theorem State.setHerr_fReg (s : State) : s.setHerr.fReg = s.fReg := rfl
@[simp] theorem State.setHerr_sReg (s : State) : s.setHerr.sReg = s.sReg := rfl
@[simp] theorem State.setHerr_pReg (s : State) : s.setHerr.pReg = s.pReg := rfl
@[simp] theorem State.setHerr_cReg (s : State) : s.setHerr.cReg = s.cReg := rfl
@[simp] theorem State.setHerr_pc (s : State) : s.setHerr.pc = s.pc := rfl
@[simp] theorem State.setHerr_imem (s : State) : s.setHerr.imem = s.imem := rfl
@[simp] theorem State.setHerr_dmem (s : State) : s.setHerr.dmem = s.dmem := rfl
@[simp] theorem State.setHerr_abortReq (s : State) : s.setHerr.abortReq = s.abortReq := rfl
@[simp] theorem State.setHerr_ie (s : State) : s.setHerr.ie = s.ie := rfl
@[simp] theorem State.setHerr_busy (s : State) : s.setHerr.busy = s.busy := rfl
@[simp] theorem State.setHerr_done (s : State) : s.setHerr.done = s.done := rfl
@[simp] theorem State.setHerr_fault (s : State) : s.setHerr.fault = s.fault := rfl
@[simp] theorem State.setHerr_herr (s : State) : s.setHerr.herr = true := rfl
@[simp] theorem State.setHerr_startPc (s : State) : s.setHerr.startPc = s.startPc := rfl
@[simp] theorem State.setHerr_faultCause (s : State) : s.setHerr.faultCause = s.faultCause := rfl
@[simp] theorem State.setHerr_faultPc (s : State) : s.setHerr.faultPc = s.faultPc := rfl
@[simp] theorem State.setHerr_faultInsn (s : State) : s.setHerr.faultInsn = s.faultInsn := rfl
@[simp] theorem State.setHerr_schedule (s : State) : s.setHerr.schedule = s.schedule := rfl
@[simp] theorem State.setHerr_readData (s : State) : s.setHerr.readData = s.readData := rfl
@[simp] theorem State.setHerr_draws (s : State) : s.setHerr.draws = s.draws := rfl

/-! ### zeroize -/

@[simp] theorem State.zeroize_fReg (s : State) : s.zeroize.fReg = Vector.replicate 16 feZero := rfl
@[simp] theorem State.zeroize_sReg (s : State) : s.zeroize.sReg = Vector.replicate 16 0#256 := rfl
@[simp] theorem State.zeroize_pReg (s : State) : s.zeroize.pReg = Vector.replicate 16 neutral := rfl
@[simp] theorem State.zeroize_cReg (s : State) : s.zeroize.cReg = Vector.replicate 16 false := rfl
@[simp] theorem State.zeroize_pc (s : State) : s.zeroize.pc = s.pc := rfl
@[simp] theorem State.zeroize_imem (s : State) : s.zeroize.imem = [] := rfl
@[simp] theorem State.zeroize_dmem (s : State) : s.zeroize.dmem = [] := rfl
@[simp] theorem State.zeroize_abortReq (s : State) : s.zeroize.abortReq = s.abortReq := rfl
@[simp] theorem State.zeroize_ie (s : State) : s.zeroize.ie = s.ie := rfl
@[simp] theorem State.zeroize_busy (s : State) : s.zeroize.busy = s.busy := rfl
@[simp] theorem State.zeroize_done (s : State) : s.zeroize.done = s.done := rfl
@[simp] theorem State.zeroize_fault (s : State) : s.zeroize.fault = s.fault := rfl
@[simp] theorem State.zeroize_herr (s : State) : s.zeroize.herr = s.herr := rfl
@[simp] theorem State.zeroize_startPc (s : State) : s.zeroize.startPc = s.startPc := rfl
@[simp] theorem State.zeroize_faultCause (s : State) : s.zeroize.faultCause = s.faultCause := rfl
@[simp] theorem State.zeroize_faultPc (s : State) : s.zeroize.faultPc = s.faultPc := rfl
@[simp] theorem State.zeroize_faultInsn (s : State) : s.zeroize.faultInsn = s.faultInsn := rfl
@[simp] theorem State.zeroize_schedule (s : State) : s.zeroize.schedule = s.schedule := rfl
@[simp] theorem State.zeroize_readData (s : State) : s.zeroize.readData = s.readData := rfl
@[simp] theorem State.zeroize_draws (s : State) : s.zeroize.draws = s.draws := rfl

/-! ### answer -/

@[simp] theorem State.answer_fReg (s : State) (v : Word) : (s.answer v).fReg = s.fReg := rfl
@[simp] theorem State.answer_sReg (s : State) (v : Word) : (s.answer v).sReg = s.sReg := rfl
@[simp] theorem State.answer_pReg (s : State) (v : Word) : (s.answer v).pReg = s.pReg := rfl
@[simp] theorem State.answer_cReg (s : State) (v : Word) : (s.answer v).cReg = s.cReg := rfl
@[simp] theorem State.answer_pc (s : State) (v : Word) : (s.answer v).pc = s.pc := rfl
@[simp] theorem State.answer_imem (s : State) (v : Word) : (s.answer v).imem = s.imem := rfl
@[simp] theorem State.answer_dmem (s : State) (v : Word) : (s.answer v).dmem = s.dmem := rfl
@[simp] theorem State.answer_abortReq (s : State) (v : Word) : (s.answer v).abortReq = s.abortReq := rfl
@[simp] theorem State.answer_ie (s : State) (v : Word) : (s.answer v).ie = s.ie := rfl
@[simp] theorem State.answer_busy (s : State) (v : Word) : (s.answer v).busy = s.busy := rfl
@[simp] theorem State.answer_done (s : State) (v : Word) : (s.answer v).done = s.done := rfl
@[simp] theorem State.answer_fault (s : State) (v : Word) : (s.answer v).fault = s.fault := rfl
@[simp] theorem State.answer_herr (s : State) (v : Word) : (s.answer v).herr = s.herr := rfl
@[simp] theorem State.answer_startPc (s : State) (v : Word) : (s.answer v).startPc = s.startPc := rfl
@[simp] theorem State.answer_faultCause (s : State) (v : Word) : (s.answer v).faultCause = s.faultCause := rfl
@[simp] theorem State.answer_faultPc (s : State) (v : Word) : (s.answer v).faultPc = s.faultPc := rfl
@[simp] theorem State.answer_faultInsn (s : State) (v : Word) : (s.answer v).faultInsn = s.faultInsn := rfl
@[simp] theorem State.answer_schedule (s : State) (v : Word) : (s.answer v).schedule = s.schedule := rfl
@[simp] theorem State.answer_readData (s : State) (v : Word) : (s.answer v).readData = v := rfl
@[simp] theorem State.answer_draws (s : State) (v : Word) : (s.answer v).draws = s.draws := rfl

/-! ### writeStatus -/

@[simp] theorem State.writeStatus_fReg (s : State) (w : Word) : (s.writeStatus w).fReg = s.fReg := rfl
@[simp] theorem State.writeStatus_sReg (s : State) (w : Word) : (s.writeStatus w).sReg = s.sReg := rfl
@[simp] theorem State.writeStatus_pReg (s : State) (w : Word) : (s.writeStatus w).pReg = s.pReg := rfl
@[simp] theorem State.writeStatus_cReg (s : State) (w : Word) : (s.writeStatus w).cReg = s.cReg := rfl
@[simp] theorem State.writeStatus_pc (s : State) (w : Word) : (s.writeStatus w).pc = s.pc := rfl
@[simp] theorem State.writeStatus_imem (s : State) (w : Word) : (s.writeStatus w).imem = s.imem := rfl
@[simp] theorem State.writeStatus_dmem (s : State) (w : Word) : (s.writeStatus w).dmem = s.dmem := rfl
@[simp] theorem State.writeStatus_abortReq (s : State) (w : Word) : (s.writeStatus w).abortReq = s.abortReq := rfl
@[simp] theorem State.writeStatus_ie (s : State) (w : Word) : (s.writeStatus w).ie = s.ie := rfl
@[simp] theorem State.writeStatus_busy (s : State) (w : Word) : (s.writeStatus w).busy = s.busy := rfl
@[simp] theorem State.writeStatus_done (s : State) (w : Word) : (s.writeStatus w).done = (s.done && !w.getLsbD 1) := rfl
@[simp] theorem State.writeStatus_fault (s : State) (w : Word) : (s.writeStatus w).fault = (s.fault && !w.getLsbD 2) := rfl
@[simp] theorem State.writeStatus_herr (s : State) (w : Word) : (s.writeStatus w).herr = (s.herr && !w.getLsbD 3) := rfl
@[simp] theorem State.writeStatus_startPc (s : State) (w : Word) : (s.writeStatus w).startPc = s.startPc := rfl
@[simp] theorem State.writeStatus_faultCause (s : State) (w : Word) : (s.writeStatus w).faultCause = s.faultCause := rfl
@[simp] theorem State.writeStatus_faultPc (s : State) (w : Word) : (s.writeStatus w).faultPc = s.faultPc := rfl
@[simp] theorem State.writeStatus_faultInsn (s : State) (w : Word) : (s.writeStatus w).faultInsn = s.faultInsn := rfl
@[simp] theorem State.writeStatus_schedule (s : State) (w : Word) : (s.writeStatus w).schedule = s.schedule := rfl
@[simp] theorem State.writeStatus_readData (s : State) (w : Word) : (s.writeStatus w).readData = s.readData := rfl
@[simp] theorem State.writeStatus_draws (s : State) (w : Word) : (s.writeStatus w).draws = s.draws := rfl

/-! ### writeStartPc -/

@[simp] theorem State.writeStartPc_fReg (s : State) (w : Word) : (s.writeStartPc w).fReg = s.fReg := rfl
@[simp] theorem State.writeStartPc_sReg (s : State) (w : Word) : (s.writeStartPc w).sReg = s.sReg := rfl
@[simp] theorem State.writeStartPc_pReg (s : State) (w : Word) : (s.writeStartPc w).pReg = s.pReg := rfl
@[simp] theorem State.writeStartPc_cReg (s : State) (w : Word) : (s.writeStartPc w).cReg = s.cReg := rfl
@[simp] theorem State.writeStartPc_pc (s : State) (w : Word) : (s.writeStartPc w).pc = s.pc := rfl
@[simp] theorem State.writeStartPc_imem (s : State) (w : Word) : (s.writeStartPc w).imem = s.imem := rfl
@[simp] theorem State.writeStartPc_dmem (s : State) (w : Word) : (s.writeStartPc w).dmem = s.dmem := rfl
@[simp] theorem State.writeStartPc_abortReq (s : State) (w : Word) : (s.writeStartPc w).abortReq = s.abortReq := rfl
@[simp] theorem State.writeStartPc_ie (s : State) (w : Word) : (s.writeStartPc w).ie = s.ie := rfl
@[simp] theorem State.writeStartPc_busy (s : State) (w : Word) : (s.writeStartPc w).busy = s.busy := rfl
@[simp] theorem State.writeStartPc_done (s : State) (w : Word) : (s.writeStartPc w).done = s.done := rfl
@[simp] theorem State.writeStartPc_fault (s : State) (w : Word) : (s.writeStartPc w).fault = s.fault := rfl
@[simp] theorem State.writeStartPc_herr (s : State) (w : Word) : (s.writeStartPc w).herr = s.herr := rfl
@[simp] theorem State.writeStartPc_startPc (s : State) (w : Word) : (s.writeStartPc w).startPc = w.extractLsb' 2 10 := rfl
@[simp] theorem State.writeStartPc_faultCause (s : State) (w : Word) : (s.writeStartPc w).faultCause = s.faultCause := rfl
@[simp] theorem State.writeStartPc_faultPc (s : State) (w : Word) : (s.writeStartPc w).faultPc = s.faultPc := rfl
@[simp] theorem State.writeStartPc_faultInsn (s : State) (w : Word) : (s.writeStartPc w).faultInsn = s.faultInsn := rfl
@[simp] theorem State.writeStartPc_schedule (s : State) (w : Word) : (s.writeStartPc w).schedule = s.schedule := rfl
@[simp] theorem State.writeStartPc_readData (s : State) (w : Word) : (s.writeStartPc w).readData = s.readData := rfl
@[simp] theorem State.writeStartPc_draws (s : State) (w : Word) : (s.writeStartPc w).draws = s.draws := rfl

/-! ### Register accessors -/

/-- A register file read back after one register is written. -/
theorem State.getF_setF (s : State) (i j : FReg) (v : Fe) : (s.setF i v).getF j = if i = j then v else s.getF j := by
  simp [State.getF, Vector.getElem_set, Fin.ext_iff]

@[simp] theorem State.getF_setF_same (s : State) (i : FReg) (v : Fe) : (s.setF i v).getF i = v := by
  simp [State.getF_setF]

theorem State.getF_setF_other (s : State) (i j : FReg) (v : Fe) (h : i ≠ j) : (s.setF i v).getF j = s.getF j := by
  simp [State.getF_setF, h]

/-- A register file read back after one register is written. -/
theorem State.getS_setS (s : State) (i j : SReg) (v : Scalar) : (s.setS i v).getS j = if i = j then v else s.getS j := by
  simp [State.getS, Vector.getElem_set, Fin.ext_iff]

@[simp] theorem State.getS_setS_same (s : State) (i : SReg) (v : Scalar) : (s.setS i v).getS i = v := by
  simp [State.getS_setS]

theorem State.getS_setS_other (s : State) (i j : SReg) (v : Scalar) (h : i ≠ j) : (s.setS i v).getS j = s.getS j := by
  simp [State.getS_setS, h]

/-- A register file read back after one register is written. -/
theorem State.getP_setP (s : State) (i j : PReg) (v : Point) : (s.setP i v).getP j = if i = j then v else s.getP j := by
  simp [State.getP, Vector.getElem_set, Fin.ext_iff]

@[simp] theorem State.getP_setP_same (s : State) (i : PReg) (v : Point) : (s.setP i v).getP i = v := by
  simp [State.getP_setP]

theorem State.getP_setP_other (s : State) (i j : PReg) (v : Point) (h : i ≠ j) : (s.setP i v).getP j = s.getP j := by
  simp [State.getP_setP, h]

/-- A register file read back after one register is written. -/
theorem State.getC_setC (s : State) (i j : CReg) (v : Bool) : (s.setC i v).getC j = if i = j then v else s.getC j := by
  simp [State.getC, Vector.getElem_set, Fin.ext_iff]

@[simp] theorem State.getC_setC_same (s : State) (i : CReg) (v : Bool) : (s.setC i v).getC i = v := by
  simp [State.getC_setC]

theorem State.getC_setC_other (s : State) (i j : CReg) (v : Bool) (h : i ≠ j) : (s.setC i v).getC j = s.getC j := by
  simp [State.getC_setC, h]

@[simp] theorem State.getF_setS (s : State) (k : SReg) (v : Scalar) (i : FReg) : (s.setS k v).getF i = s.getF i := rfl
@[simp] theorem State.getF_setP (s : State) (k : PReg) (v : Point) (i : FReg) : (s.setP k v).getF i = s.getF i := rfl
@[simp] theorem State.getF_setC (s : State) (k : CReg) (v : Bool) (i : FReg) : (s.setC k v).getF i = s.getF i := rfl
@[simp] theorem State.getF_setConds (s : State) (cs : Vector Bool 16) (i : FReg) : (s.setConds cs).getF i = s.getF i := rfl
@[simp] theorem State.getF_setDmem (s : State) (m : Memory) (i : FReg) : (s.setDmem m).getF i = s.getF i := rfl
@[simp] theorem State.getF_setImem (s : State) (m : Memory) (i : FReg) : (s.setImem m).getF i = s.getF i := rfl
@[simp] theorem State.getF_writeSlot (s : State) (n : Slot) (v : Nat) (i : FReg) : (s.writeSlot n v).getF i = s.getF i := State.getF_setDmem s _ i
@[simp] theorem State.getF_advance (s : State) (i : FReg) : s.advance.getF i = s.getF i := rfl
@[simp] theorem State.getF_finishRun (s : State) (i : FReg) : s.finishRun.getF i = s.getF i := rfl
@[simp] theorem State.getF_raiseFault (s : State) (c : FaultCause) (w : Word) (i : FReg) : (s.raiseFault c w).getF i = s.getF i := rfl
@[simp] theorem State.getF_consumeAbort (s : State) (i : FReg) : s.consumeAbort.getF i = s.getF i := rfl
@[simp] theorem State.getF_startRun (s : State) (i : FReg) : s.startRun.getF i = s.getF i := rfl
@[simp] theorem State.getF_setHerr (s : State) (i : FReg) : s.setHerr.getF i = s.getF i := rfl
@[simp] theorem State.getF_answer (s : State) (v : Word) (i : FReg) : (s.answer v).getF i = s.getF i := rfl
@[simp] theorem State.getF_writeStatus (s : State) (w : Word) (i : FReg) : (s.writeStatus w).getF i = s.getF i := rfl
@[simp] theorem State.getF_writeStartPc (s : State) (w : Word) (i : FReg) : (s.writeStartPc w).getF i = s.getF i := rfl

@[simp] theorem State.getS_setF (s : State) (k : FReg) (v : Fe) (i : SReg) : (s.setF k v).getS i = s.getS i := rfl
@[simp] theorem State.getS_setP (s : State) (k : PReg) (v : Point) (i : SReg) : (s.setP k v).getS i = s.getS i := rfl
@[simp] theorem State.getS_setC (s : State) (k : CReg) (v : Bool) (i : SReg) : (s.setC k v).getS i = s.getS i := rfl
@[simp] theorem State.getS_setConds (s : State) (cs : Vector Bool 16) (i : SReg) : (s.setConds cs).getS i = s.getS i := rfl
@[simp] theorem State.getS_setDmem (s : State) (m : Memory) (i : SReg) : (s.setDmem m).getS i = s.getS i := rfl
@[simp] theorem State.getS_setImem (s : State) (m : Memory) (i : SReg) : (s.setImem m).getS i = s.getS i := rfl
@[simp] theorem State.getS_writeSlot (s : State) (n : Slot) (v : Nat) (i : SReg) : (s.writeSlot n v).getS i = s.getS i := State.getS_setDmem s _ i
@[simp] theorem State.getS_advance (s : State) (i : SReg) : s.advance.getS i = s.getS i := rfl
@[simp] theorem State.getS_finishRun (s : State) (i : SReg) : s.finishRun.getS i = s.getS i := rfl
@[simp] theorem State.getS_raiseFault (s : State) (c : FaultCause) (w : Word) (i : SReg) : (s.raiseFault c w).getS i = s.getS i := rfl
@[simp] theorem State.getS_consumeAbort (s : State) (i : SReg) : s.consumeAbort.getS i = s.getS i := rfl
@[simp] theorem State.getS_startRun (s : State) (i : SReg) : s.startRun.getS i = s.getS i := rfl
@[simp] theorem State.getS_setHerr (s : State) (i : SReg) : s.setHerr.getS i = s.getS i := rfl
@[simp] theorem State.getS_answer (s : State) (v : Word) (i : SReg) : (s.answer v).getS i = s.getS i := rfl
@[simp] theorem State.getS_writeStatus (s : State) (w : Word) (i : SReg) : (s.writeStatus w).getS i = s.getS i := rfl
@[simp] theorem State.getS_writeStartPc (s : State) (w : Word) (i : SReg) : (s.writeStartPc w).getS i = s.getS i := rfl

@[simp] theorem State.getP_setF (s : State) (k : FReg) (v : Fe) (i : PReg) : (s.setF k v).getP i = s.getP i := rfl
@[simp] theorem State.getP_setS (s : State) (k : SReg) (v : Scalar) (i : PReg) : (s.setS k v).getP i = s.getP i := rfl
@[simp] theorem State.getP_setC (s : State) (k : CReg) (v : Bool) (i : PReg) : (s.setC k v).getP i = s.getP i := rfl
@[simp] theorem State.getP_setConds (s : State) (cs : Vector Bool 16) (i : PReg) : (s.setConds cs).getP i = s.getP i := rfl
@[simp] theorem State.getP_setDmem (s : State) (m : Memory) (i : PReg) : (s.setDmem m).getP i = s.getP i := rfl
@[simp] theorem State.getP_setImem (s : State) (m : Memory) (i : PReg) : (s.setImem m).getP i = s.getP i := rfl
@[simp] theorem State.getP_writeSlot (s : State) (n : Slot) (v : Nat) (i : PReg) : (s.writeSlot n v).getP i = s.getP i := State.getP_setDmem s _ i
@[simp] theorem State.getP_advance (s : State) (i : PReg) : s.advance.getP i = s.getP i := rfl
@[simp] theorem State.getP_finishRun (s : State) (i : PReg) : s.finishRun.getP i = s.getP i := rfl
@[simp] theorem State.getP_raiseFault (s : State) (c : FaultCause) (w : Word) (i : PReg) : (s.raiseFault c w).getP i = s.getP i := rfl
@[simp] theorem State.getP_consumeAbort (s : State) (i : PReg) : s.consumeAbort.getP i = s.getP i := rfl
@[simp] theorem State.getP_startRun (s : State) (i : PReg) : s.startRun.getP i = s.getP i := rfl
@[simp] theorem State.getP_setHerr (s : State) (i : PReg) : s.setHerr.getP i = s.getP i := rfl
@[simp] theorem State.getP_answer (s : State) (v : Word) (i : PReg) : (s.answer v).getP i = s.getP i := rfl
@[simp] theorem State.getP_writeStatus (s : State) (w : Word) (i : PReg) : (s.writeStatus w).getP i = s.getP i := rfl
@[simp] theorem State.getP_writeStartPc (s : State) (w : Word) (i : PReg) : (s.writeStartPc w).getP i = s.getP i := rfl

@[simp] theorem State.getC_setF (s : State) (k : FReg) (v : Fe) (i : CReg) : (s.setF k v).getC i = s.getC i := rfl
@[simp] theorem State.getC_setS (s : State) (k : SReg) (v : Scalar) (i : CReg) : (s.setS k v).getC i = s.getC i := rfl
@[simp] theorem State.getC_setP (s : State) (k : PReg) (v : Point) (i : CReg) : (s.setP k v).getC i = s.getC i := rfl
@[simp] theorem State.getC_setDmem (s : State) (m : Memory) (i : CReg) : (s.setDmem m).getC i = s.getC i := rfl
@[simp] theorem State.getC_setImem (s : State) (m : Memory) (i : CReg) : (s.setImem m).getC i = s.getC i := rfl
@[simp] theorem State.getC_writeSlot (s : State) (n : Slot) (v : Nat) (i : CReg) : (s.writeSlot n v).getC i = s.getC i := State.getC_setDmem s _ i
@[simp] theorem State.getC_advance (s : State) (i : CReg) : s.advance.getC i = s.getC i := rfl
@[simp] theorem State.getC_finishRun (s : State) (i : CReg) : s.finishRun.getC i = s.getC i := rfl
@[simp] theorem State.getC_raiseFault (s : State) (c : FaultCause) (w : Word) (i : CReg) : (s.raiseFault c w).getC i = s.getC i := rfl
@[simp] theorem State.getC_consumeAbort (s : State) (i : CReg) : s.consumeAbort.getC i = s.getC i := rfl
@[simp] theorem State.getC_startRun (s : State) (i : CReg) : s.startRun.getC i = s.getC i := rfl
@[simp] theorem State.getC_setHerr (s : State) (i : CReg) : s.setHerr.getC i = s.getC i := rfl
@[simp] theorem State.getC_answer (s : State) (v : Word) (i : CReg) : (s.answer v).getC i = s.getC i := rfl
@[simp] theorem State.getC_writeStatus (s : State) (w : Word) (i : CReg) : (s.writeStatus w).getC i = s.getC i := rfl
@[simp] theorem State.getC_writeStartPc (s : State) (w : Word) (i : CReg) : (s.writeStartPc w).getC i = s.getC i := rfl

@[simp] theorem State.getF_clearRegs (s : State) (i : FReg) : s.clearRegs.getF i = feZero := by
  simp [State.getF]
@[simp] theorem State.getF_zeroize (s : State) (i : FReg) : s.zeroize.getF i = feZero := by
  simp [State.getF]
@[simp] theorem State.getS_clearRegs (s : State) (i : SReg) : s.clearRegs.getS i = 0#256 := by
  simp [State.getS]
@[simp] theorem State.getS_zeroize (s : State) (i : SReg) : s.zeroize.getS i = 0#256 := by
  simp [State.getS]
@[simp] theorem State.getP_clearRegs (s : State) (i : PReg) : s.clearRegs.getP i = neutral := by
  simp [State.getP]
@[simp] theorem State.getP_zeroize (s : State) (i : PReg) : s.zeroize.getP i = neutral := by
  simp [State.getP]
@[simp] theorem State.getC_clearRegs (s : State) (i : CReg) : s.clearRegs.getC i = false := by
  simp [State.getC]
@[simp] theorem State.getC_zeroize (s : State) (i : CReg) : s.zeroize.getC i = false := by
  simp [State.getC]

@[simp] theorem State.getC_setConds (s : State) (cs : Vector Bool 16) (i : CReg) :
    (s.setConds cs).getC i = cs[i.val] := rfl

@[simp] theorem State.readSlot_advance (s : State) (n : Slot) : s.advance.readSlot n = s.readSlot n := rfl

end Sys2Proof.Machine
end

