-- ==== Sys2Proof/Laws/Ops.lean ====
section
/-! SUPPORT. What each shared operation can do, said once: the end of a command, the slots, the engine's step, one event,
and the host's accesses. Later proofs cite these and unfold nothing. -/

namespace Sys2Proof.Machine

/-- The memories after State.reset are in canonical form. -/
theorem State.reset_memories_wf : State.reset.imem.wf Config.imemBytes = true ∧ State.reset.dmem.wf Config.dmemBytes = true :=
  ⟨Memory.wf_nil _, Memory.wf_nil _⟩

/-- What a retiring command answers. -/
@[simp] theorem retire_eq (s : State) : retire s = .next s.advance := rfl

/-- A retiring command answers its state with the pc moved, and nothing else. -/
theorem retire_next {s t : State} : retire s = .next t ↔ t = s.advance :=
  ⟨fun h => (by injection h with h; exact h.symm), fun h => h ▸ rfl⟩

/-- A slot written reads back as the value modulo 2^256. -/
theorem State.readSlot_writeSlot (s : State) (n : Slot) (v : Nat) (h : s.dmem.wf Config.dmemBytes = true) :
    (s.writeSlot n v).readSlot n = v % 256 ^ Config.slotBytes := by
  rw [State.readSlot, State.writeSlot_dmem, Memory.readLE_writeLE h (slotAddress_inside n)]

/-- A slot write leaves every byte outside the slot alone. -/
theorem State.read_writeSlot_outside (s : State) (n : Slot) (v a : Nat) (h : s.dmem.wf Config.dmemBytes = true)
    (ha : a < slotAddress n ∨ slotAddress n + Config.slotBytes ≤ a) :
    (s.writeSlot n v).dmem.read a = s.dmem.read a := by
  rw [State.writeSlot_dmem, Memory.read_writeLE_outside h (slotAddress_inside n) v a ha]

/-- A slot write keeps DMEM in canonical form. -/
theorem State.wf_writeSlot (s : State) (n : Slot) (v : Nat) (h : s.dmem.wf Config.dmemBytes = true) :
    (s.writeSlot n v).dmem.wf Config.dmemBytes = true := by
  rw [State.writeSlot_dmem]
  exact Memory.wf_writeLE h (slotAddress_inside n) v

/-- A slot's integer is below 2^256. -/
theorem State.readSlot_lt (s : State) (n : Slot) : s.readSlot n < 256 ^ Config.slotBytes := by
  have h := fromLE_lt (s.dmem.readBytes (slotAddress n) Config.slotBytes)
  rwa [Memory.length_readBytes] at h

/-- Everything the engine's step can do. -/
theorem State.engineStep_next {s t : State} (h : s.engineStep = .next t) :
    (s.busy = false ∧ t = s) ∨
    (s.busy = true ∧ s.abortReq = true ∧ t = s.consumeAbort.raiseFault .aborted 0#32) ∨
    (s.busy = true ∧ s.abortReq = false ∧ s.pc = 4096#13 ∧ t = s.raiseFault .fetchRange 0#32) ∨
    (s.busy = true ∧ s.abortReq = false ∧ isCommandAddress s.pc = true ∧
      ((decode s.fetchedWord = .illegalOpcode ∧ t = s.raiseFault .illegalOpcode s.fetchedWord) ∨
       (decode s.fetchedWord = .illegalField ∧ t = s.raiseFault .illegalField s.fetchedWord) ∨
       (∃ i, decode s.fetchedWord = .instr i ∧ exec i s = .next t))) := by
  unfold State.engineStep at h
  split at h
  case isFalse hb => exact .inl ⟨by simpa using hb, by injection h with h; exact h.symm⟩
  case isTrue hb =>
    refine .inr ?_
    split at h
    case isTrue ha => exact .inl ⟨hb, ha, by injection h with h; exact h.symm⟩
    case isFalse ha =>
      have ha' : s.abortReq = false := by simpa using ha
      refine .inr ?_
      split at h
      case isTrue hp => exact .inl ⟨hb, ha', hp, by injection h with h; exact h.symm⟩
      case isFalse hp =>
        refine .inr ?_
        split at h
        case isFalse => cases h
        case isTrue hc =>
          refine ⟨hb, ha', hc, ?_⟩
          unfold State.perform at h
          split at h
          case h_1 i hd => exact .inr (.inr ⟨i, hd, h⟩)
          case h_2 hd => exact .inl ⟨hd, by injection h with h; exact h.symm⟩
          case h_3 hd => exact .inr (.inl ⟨hd, by injection h with h; exact h.symm⟩)

/-- Everything one event of the machine can do. -/
theorem step_next {s t : State} (h : step s = .next t) :
    (s.schedule = [] ∧ s.engineStep = .next t) ∨
    (∃ rest, s.schedule = .engine :: rest ∧ { s with schedule := rest }.engineStep = .next t) ∨
    (∃ a rest, s.schedule = .host a :: rest ∧ t = { s with schedule := rest }.hostAccess a) ∨
    (∃ rest, s.schedule = .reset :: rest ∧ t = { s with schedule := rest }.hardReset) := by
  unfold step State.agentStep at h
  split at h
  case h_1 hs => exact .inl ⟨hs, h⟩
  case h_2 rest hs => exact .inr (.inl ⟨rest, hs, h⟩)
  case h_3 a rest hs => exact .inr (.inr (.inl ⟨a, rest, hs, by injection h with h; exact h.symm⟩))
  case h_4 rest hs => exact .inr (.inr (.inr ⟨rest, hs, by injection h with h; exact h.symm⟩))

/-- Everything a host read can do: an answer with HERR, an answer, or an answer that uses up a draw. -/
theorem State.hostRead_cases (s : State) (size o : Nat) :
    s.hostRead size o = s.refuseRead ∨ (∃ v, s.hostRead size o = s.answer v) ∨
    s.hostRead size o = s.afterPcRead.answer s.pcWord := by
  unfold State.hostRead
  split
  · split
    · split
      · exact .inl rfl
      · exact .inr (.inl ⟨_, rfl⟩)
    · split
      · split
        · exact .inl rfl
        · exact .inr (.inl ⟨_, rfl⟩)
      · split
        · exact .inr (.inr rfl)
        · split
          · exact .inr (.inl ⟨_, rfl⟩)
          · exact .inl rfl
  · exact .inl rfl

/-- Everything a host write can do: an error noted, a word of IMEM or DMEM stored while idle, or a register written. -/
theorem State.hostWrite_cases (s : State) (size o : Nat) (w : Word) :
    s.hostWrite size o w = s.setHerr ∨
    (s.busy = false ∧ o % 4 = 0 ∧ o < 0x1000 ∧ s.hostWrite size o w = s.setImem (s.imem.writeLE o 4 w.toNat)) ∨
    (s.busy = false ∧ o % 4 = 0 ∧ 0x1000 ≤ o ∧ o < 0x3000 ∧
      s.hostWrite size o w = s.setDmem (s.dmem.writeLE (o - 0x1000) 4 w.toNat)) ∨
    (s.hostWrite size o w = s.writeRegister o w) := by
  unfold State.hostWrite
  split
  case isFalse => exact .inl rfl
  case isTrue hw =>
    have ho : o % 4 = 0 := by
      simp only [wellFormedAccess, Bool.and_eq_true, decide_eq_true_eq] at hw
      exact hw.2
    split
    case isTrue hi =>
      split
      case isTrue => exact .inl rfl
      case isFalse hb => exact .inr (.inl ⟨by simpa using hb, ho, hi, rfl⟩)
    case isFalse hi =>
      split
      case isTrue hd =>
        split
        case isTrue => exact .inl rfl
        case isFalse hb => exact .inr (.inr (.inl ⟨by simpa using hb, ho, by omega, hd, rfl⟩))
      case isFalse =>
        split
        case isTrue => exact .inr (.inr (.inr rfl))
        case isFalse => exact .inl rfl

/-- Everything a write to CTRL can do, after IE takes bit 8. -/
theorem State.writeCtrl_cases (s : State) (w : Word) :
    let s1 := { s with ie := w.getLsbD 8 }
    s.writeCtrl w = s1 ∨ s.writeCtrl w = s1.hostStart ∨ s.writeCtrl w = s1.hostAbort ∨
    s.writeCtrl w = s1.hostZeroize ∨ s.writeCtrl w = s1.setHerr := by
  unfold State.writeCtrl
  split <;> simp

/-- START_PC is a command address: a multiple of 4, at most 4092 (10_state R30). -/
theorem State.startAddress_toNat (s : State) : s.startAddress.toNat = 4 * s.startPc.toNat := by
  have h : (0#1 ++ s.startPc ++ 0#2 : BitVec 13).toNat = 4 * s.startPc.toNat := by
    simp only [BitVec.toNat_append, BitVec.toNat_ofNat]
    rw [← Nat.shiftLeft_add_eq_or_of_lt (by decide : 0 % 2 ^ 2 < 2 ^ 2)]
    simp [Nat.shiftLeft_eq]
    omega
  exact h

end Sys2Proof.Machine
end

