-- ==== Sys2Proof/Laws/PerInstr.lean ====
section
/-! SUPPORT. Facts about commands as syntax, one lemma per constructor. -/

namespace Sys2Proof

/-- The opcode of each command (30_encoding R95). -/
def Instr.opcode : Instr → BitVec 8
  | .nop => 0x00#8
  | .halt => 0x01#8
  | .clrall => 0x02#8
  | .cset _ _ => 0x08#8
  | .ccpy _ _ => 0x09#8
  | .cnot _ _ => 0x0a#8
  | .cand _ _ _ => 0x0b#8
  | .cor _ _ _ => 0x0c#8
  | .cxor _ _ _ => 0x0d#8
  | .feMov _ _ => 0x10#8
  | .feLdi _ _ => 0x11#8
  | .feAdd _ _ _ => 0x12#8
  | .feSub _ _ _ => 0x13#8
  | .feNeg _ _ => 0x14#8
  | .feMul _ _ _ => 0x15#8
  | .feSq _ _ => 0x16#8
  | .feSq2 _ _ => 0x17#8
  | .feInv _ _ => 0x18#8
  | .fePow22523 _ _ => 0x19#8
  | .feSqrtr _ _ _ _ => 0x1a#8
  | .feIsneg _ _ => 0x1b#8
  | .feIszero _ _ => 0x1c#8
  | .feCmov _ _ _ => 0x1d#8
  | .feCswap _ _ _ => 0x1e#8
  | .feLd _ _ => 0x20#8
  | .feSt _ _ => 0x21#8
  | .scLd _ _ => 0x22#8
  | .scSt _ _ => 0x23#8
  | .ptDec _ _ _ => 0x24#8
  | .ptEnc _ _ => 0x25#8
  | .cLd _ => 0x26#8
  | .cSt _ => 0x27#8
  | .scMov _ _ => 0x30#8
  | .scLdi _ _ => 0x31#8
  | .scReduce _ _ _ => 0x32#8
  | .scMuladd _ _ _ _ => 0x33#8
  | .scClamp _ _ => 0x34#8
  | .scCmov _ _ _ => 0x35#8
  | .scIscanon _ _ => 0x36#8
  | .ptMov _ _ => 0x40#8
  | .ptId _ => 0x41#8
  | .ptBase _ => 0x42#8
  | .ptAdd _ _ _ => 0x43#8
  | .ptDbl _ _ => 0x44#8
  | .ptNeg _ _ => 0x45#8
  | .ptMul8 _ _ => 0x46#8
  | .ptCmov _ _ _ => 0x47#8
  | .ptIsid _ _ => 0x48#8
  | .ptSmulb _ _ => 0x49#8
  | .ptSmul _ _ _ => 0x4a#8
  | .ptDsmul _ _ _ _ => 0x4b#8
  | .ptLdaff _ _ _ _ => 0x4c#8
  | .ptLdproj _ _ _ _ _ => 0x4d#8
  | .ptLdext _ _ _ _ _ _ => 0x4e#8
  | .ptStaff _ _ _ => 0x4f#8
  | .h2pEll2 _ _ => 0x50#8
  | .h2pM2e _ _ _ _ => 0x51#8
  | .h2p _ _ _ => 0x52#8

end Sys2Proof

namespace Sys2Proof.Laws

/-- Bits 7:0 of a command's encoding are its opcode (30_encoding R90). -/
def EncodeOpcode.Statement (i : Instr) : Prop := opOf (encode i) = i.opcode

theorem EncodeOpcode.nop : EncodeOpcode.Statement .nop := opOf_packN _

theorem EncodeOpcode.halt : EncodeOpcode.Statement .halt := opOf_packN _

theorem EncodeOpcode.clrall : EncodeOpcode.Statement .clrall := opOf_packN _

theorem EncodeOpcode.cset (k : CReg) (imm : Nat) : EncodeOpcode.Statement (.cset k imm) := opOf_packR _ _ _ _ _ _ _

theorem EncodeOpcode.ccpy (k : CReg) (a : CReg) : EncodeOpcode.Statement (.ccpy k a) := opOf_packR _ _ _ _ _ _ _

theorem EncodeOpcode.cnot (k : CReg) (a : CReg) : EncodeOpcode.Statement (.cnot k a) := opOf_packR _ _ _ _ _ _ _

theorem EncodeOpcode.cand (k : CReg) (a : CReg) (b : CReg) : EncodeOpcode.Statement (.cand k a b) := opOf_packR _ _ _ _ _ _ _

theorem EncodeOpcode.cor (k : CReg) (a : CReg) (b : CReg) : EncodeOpcode.Statement (.cor k a b) := opOf_packR _ _ _ _ _ _ _

theorem EncodeOpcode.cxor (k : CReg) (a : CReg) (b : CReg) : EncodeOpcode.Statement (.cxor k a b) := opOf_packR _ _ _ _ _ _ _

theorem EncodeOpcode.feMov (d : FReg) (a : FReg) : EncodeOpcode.Statement (.feMov d a) := opOf_packR _ _ _ _ _ _ _

theorem EncodeOpcode.feLdi (d : FReg) (imm : Nat) : EncodeOpcode.Statement (.feLdi d imm) := opOf_packI _ _ _

theorem EncodeOpcode.feAdd (d : FReg) (a : FReg) (b : FReg) : EncodeOpcode.Statement (.feAdd d a b) := opOf_packR _ _ _ _ _ _ _

theorem EncodeOpcode.feSub (d : FReg) (a : FReg) (b : FReg) : EncodeOpcode.Statement (.feSub d a b) := opOf_packR _ _ _ _ _ _ _

theorem EncodeOpcode.feNeg (d : FReg) (a : FReg) : EncodeOpcode.Statement (.feNeg d a) := opOf_packR _ _ _ _ _ _ _

theorem EncodeOpcode.feMul (d : FReg) (a : FReg) (b : FReg) : EncodeOpcode.Statement (.feMul d a b) := opOf_packR _ _ _ _ _ _ _

theorem EncodeOpcode.feSq (d : FReg) (a : FReg) : EncodeOpcode.Statement (.feSq d a) := opOf_packR _ _ _ _ _ _ _

theorem EncodeOpcode.feSq2 (d : FReg) (a : FReg) : EncodeOpcode.Statement (.feSq2 d a) := opOf_packR _ _ _ _ _ _ _

theorem EncodeOpcode.feInv (d : FReg) (a : FReg) : EncodeOpcode.Statement (.feInv d a) := opOf_packR _ _ _ _ _ _ _

theorem EncodeOpcode.fePow22523 (d : FReg) (a : FReg) : EncodeOpcode.Statement (.fePow22523 d a) := opOf_packR _ _ _ _ _ _ _

theorem EncodeOpcode.feSqrtr (d : FReg) (k : CReg) (a : FReg) (b : FReg) : EncodeOpcode.Statement (.feSqrtr d k a b) := opOf_packR _ _ _ _ _ _ _

theorem EncodeOpcode.feIsneg (k : CReg) (a : FReg) : EncodeOpcode.Statement (.feIsneg k a) := opOf_packR _ _ _ _ _ _ _

theorem EncodeOpcode.feIszero (k : CReg) (a : FReg) : EncodeOpcode.Statement (.feIszero k a) := opOf_packR _ _ _ _ _ _ _

theorem EncodeOpcode.feCmov (d : FReg) (a : FReg) (k : CReg) : EncodeOpcode.Statement (.feCmov d a k) := opOf_packR _ _ _ _ _ _ _

theorem EncodeOpcode.feCswap (d : FReg) (a : FReg) (k : CReg) : EncodeOpcode.Statement (.feCswap d a k) := opOf_packR _ _ _ _ _ _ _

theorem EncodeOpcode.feLd (d : FReg) (slot : Slot) : EncodeOpcode.Statement (.feLd d slot) := opOf_packM _ _ _ _

theorem EncodeOpcode.feSt (slot : Slot) (d : FReg) : EncodeOpcode.Statement (.feSt slot d) := opOf_packM _ _ _ _

theorem EncodeOpcode.scLd (d : SReg) (slot : Slot) : EncodeOpcode.Statement (.scLd d slot) := opOf_packM _ _ _ _

theorem EncodeOpcode.scSt (slot : Slot) (d : SReg) : EncodeOpcode.Statement (.scSt slot d) := opOf_packM _ _ _ _

theorem EncodeOpcode.ptDec (d : PReg) (k : CReg) (slot : Slot) : EncodeOpcode.Statement (.ptDec d k slot) := opOf_packM _ _ _ _

theorem EncodeOpcode.ptEnc (slot : Slot) (d : PReg) : EncodeOpcode.Statement (.ptEnc slot d) := opOf_packM _ _ _ _

theorem EncodeOpcode.cLd (slot : Slot) : EncodeOpcode.Statement (.cLd slot) := opOf_packM _ _ _ _

theorem EncodeOpcode.cSt (slot : Slot) : EncodeOpcode.Statement (.cSt slot) := opOf_packM _ _ _ _

theorem EncodeOpcode.scMov (d : SReg) (a : SReg) : EncodeOpcode.Statement (.scMov d a) := opOf_packR _ _ _ _ _ _ _

theorem EncodeOpcode.scLdi (d : SReg) (imm : Nat) : EncodeOpcode.Statement (.scLdi d imm) := opOf_packI _ _ _

theorem EncodeOpcode.scReduce (d : SReg) (a : SReg) (b : SReg) : EncodeOpcode.Statement (.scReduce d a b) := opOf_packR _ _ _ _ _ _ _

theorem EncodeOpcode.scMuladd (d : SReg) (a : SReg) (b : SReg) (c : SReg) : EncodeOpcode.Statement (.scMuladd d a b c) := opOf_packR _ _ _ _ _ _ _

theorem EncodeOpcode.scClamp (d : SReg) (a : SReg) : EncodeOpcode.Statement (.scClamp d a) := opOf_packR _ _ _ _ _ _ _

theorem EncodeOpcode.scCmov (d : SReg) (a : SReg) (k : CReg) : EncodeOpcode.Statement (.scCmov d a k) := opOf_packR _ _ _ _ _ _ _

theorem EncodeOpcode.scIscanon (k : CReg) (a : SReg) : EncodeOpcode.Statement (.scIscanon k a) := opOf_packR _ _ _ _ _ _ _

theorem EncodeOpcode.ptMov (d : PReg) (a : PReg) : EncodeOpcode.Statement (.ptMov d a) := opOf_packR _ _ _ _ _ _ _

theorem EncodeOpcode.ptId (d : PReg) : EncodeOpcode.Statement (.ptId d) := opOf_packR _ _ _ _ _ _ _

theorem EncodeOpcode.ptBase (d : PReg) : EncodeOpcode.Statement (.ptBase d) := opOf_packR _ _ _ _ _ _ _

theorem EncodeOpcode.ptAdd (d : PReg) (a : PReg) (b : PReg) : EncodeOpcode.Statement (.ptAdd d a b) := opOf_packR _ _ _ _ _ _ _

theorem EncodeOpcode.ptDbl (d : PReg) (a : PReg) : EncodeOpcode.Statement (.ptDbl d a) := opOf_packR _ _ _ _ _ _ _

theorem EncodeOpcode.ptNeg (d : PReg) (a : PReg) : EncodeOpcode.Statement (.ptNeg d a) := opOf_packR _ _ _ _ _ _ _

theorem EncodeOpcode.ptMul8 (d : PReg) (a : PReg) : EncodeOpcode.Statement (.ptMul8 d a) := opOf_packR _ _ _ _ _ _ _

theorem EncodeOpcode.ptCmov (d : PReg) (a : PReg) (k : CReg) : EncodeOpcode.Statement (.ptCmov d a k) := opOf_packR _ _ _ _ _ _ _

theorem EncodeOpcode.ptIsid (k : CReg) (a : PReg) : EncodeOpcode.Statement (.ptIsid k a) := opOf_packR _ _ _ _ _ _ _

theorem EncodeOpcode.ptSmulb (d : PReg) (b : SReg) : EncodeOpcode.Statement (.ptSmulb d b) := opOf_packR _ _ _ _ _ _ _

theorem EncodeOpcode.ptSmul (d : PReg) (a : PReg) (b : SReg) : EncodeOpcode.Statement (.ptSmul d a b) := opOf_packR _ _ _ _ _ _ _

theorem EncodeOpcode.ptDsmul (d : PReg) (a : PReg) (b : SReg) (c : SReg) : EncodeOpcode.Statement (.ptDsmul d a b c) := opOf_packR _ _ _ _ _ _ _

theorem EncodeOpcode.ptLdaff (d : PReg) (k : CReg) (a : FReg) (b : FReg) : EncodeOpcode.Statement (.ptLdaff d k a b) := opOf_packR _ _ _ _ _ _ _

theorem EncodeOpcode.ptLdproj (d : PReg) (k : CReg) (a : FReg) (b : FReg) (c : FReg) : EncodeOpcode.Statement (.ptLdproj d k a b c) := opOf_packR _ _ _ _ _ _ _

theorem EncodeOpcode.ptLdext (d : PReg) (k : CReg) (a : FReg) (b : FReg) (c : FReg) (e : FReg) : EncodeOpcode.Statement (.ptLdext d k a b c e) := opOf_packR _ _ _ _ _ _ _

theorem EncodeOpcode.ptStaff (d : FReg) (a : FReg) (b : PReg) : EncodeOpcode.Statement (.ptStaff d a b) := opOf_packR _ _ _ _ _ _ _

theorem EncodeOpcode.h2pEll2 (d : FReg) (a : FReg) : EncodeOpcode.Statement (.h2pEll2 d a) := opOf_packR _ _ _ _ _ _ _

theorem EncodeOpcode.h2pM2e (d : PReg) (k : CReg) (a : FReg) (b : CReg) : EncodeOpcode.Statement (.h2pM2e d k a b) := opOf_packR _ _ _ _ _ _ _

theorem EncodeOpcode.h2p (d : PReg) (a : FReg) (b : CReg) : EncodeOpcode.Statement (.h2p d a b) := opOf_packR _ _ _ _ _ _ _

end Sys2Proof.Laws
end

