-- ==== Sys2Proof/Laws/Prime.lean ====
section
/-! SUPPORT. p = 2^255 − 19 is prime, by Lucas' test on certificates for the prime factors of p − 1. -/

namespace Sys2Proof.Machine

/-- Lucas' test in the arithmetic the kernel evaluates: a^(n−1) = 1 and a^((n−1)/q) ≠ 1 modulo n for every q of a list
of primes that n − 1 is a product of powers of. -/
theorem prime_of_lucas (n a k : Nat) (qs : List Nat) (hn : 1 < n) (hk : n < 16 ^ k)
    (hq : ∀ q ∈ qs, q.Prime) (hprod : ∃ e : List Nat, n - 1 = (List.zipWith (· ^ ·) qs e).prod)
    (h1 : powMod n a k (n - 1) = 1) (h2 : ∀ q ∈ qs, powMod n a k ((n - 1) / q) ≠ 1) : n.Prime := by
  have hpow : ∀ e, e < n → ((a : ZMod n) ^ e = 1 ↔ powMod n a k e = 1) := by
    intro e he
    rw [powMod_eq n a k e (lt_trans he hk)]
    have h3 : ((a : ZMod n) ^ e = 1) ↔ (((a ^ e : Nat) : ZMod n) = ((1 : Nat) : ZMod n)) := by push_cast; rfl
    rw [h3, ZMod.natCast_eq_natCast_iff', Nat.mod_eq_of_lt hn]
  apply lucas_primality n (a : ZMod n) ((hpow _ (by omega)).2 h1)
  intro q hqp hqd hone
  have hmem : q ∈ qs := by
    obtain ⟨e, he⟩ := hprod
    rw [he] at hqd
    obtain ⟨x, hx, hqx⟩ := (Nat.Prime.prime hqp).dvd_prod_iff.1 hqd
    rw [List.mem_iff_getElem] at hx
    obtain ⟨i, hi, rfl⟩ := hx
    rw [List.getElem_zipWith] at hqx
    simp only [List.length_zipWith, lt_min_iff] at hi
    have hb : (qs[i]'hi.1) ∈ qs := List.getElem_mem _
    have := (Nat.prime_dvd_prime_iff_eq hqp (hq _ hb)).1 (hqp.dvd_of_dvd_pow hqx)
    rw [this]; exact hb
  have hlt : (n - 1) / q < n := lt_of_le_of_lt (Nat.div_le_self _ _) (by omega)
  exact h2 q hmem ((hpow _ hlt).1 hone)

/-- A prime factor on the way to p. -/
theorem prime_factor_0 : (1923133 : Nat).Prime :=
  prime_of_lucas 1923133 2 6 [2, 3, 43, 3727]
    (by decide +kernel) (by decide +kernel)
    (by
    simp only [List.forall_mem_cons, List.not_mem_nil, false_implies, implies_true, and_true]
    refine ⟨?_, ?_, ?_, ?_⟩
    · norm_num
    · norm_num
    · norm_num
    · norm_num)
    ⟨[2, 1, 1, 1], by decide +kernel⟩ (by decide +kernel) (by decide +kernel)

/-- A prime factor on the way to p. -/
theorem prime_factor_1 : (8574133 : Nat).Prime :=
  prime_of_lucas 8574133 2 6 [2, 3, 7, 103, 991]
    (by decide +kernel) (by decide +kernel)
    (by
    simp only [List.forall_mem_cons, List.not_mem_nil, false_implies, implies_true, and_true]
    refine ⟨?_, ?_, ?_, ?_, ?_⟩
    · norm_num
    · norm_num
    · norm_num
    · norm_num
    · norm_num)
    ⟨[2, 1, 1, 1, 1], by decide +kernel⟩ (by decide +kernel) (by decide +kernel)

/-- A prime factor on the way to p. -/
theorem prime_factor_2 : (2773320623 : Nat).Prime :=
  prime_of_lucas 2773320623 5 8 [2, 2437, 569003]
    (by decide +kernel) (by decide +kernel)
    (by
    simp only [List.forall_mem_cons, List.not_mem_nil, false_implies, implies_true, and_true]
    refine ⟨?_, ?_, ?_⟩
    · norm_num
    · norm_num
    · norm_num)
    ⟨[1, 1, 1], by decide +kernel⟩ (by decide +kernel) (by decide +kernel)

/-- A prime factor on the way to p. -/
theorem prime_factor_3 : (72106336199 : Nat).Prime :=
  prime_of_lucas 72106336199 7 10 [2, 13, 2773320623]
    (by decide +kernel) (by decide +kernel)
    (by
    simp only [List.forall_mem_cons, List.not_mem_nil, false_implies, implies_true, and_true]
    refine ⟨?_, ?_, ?_⟩
    · norm_num
    · norm_num
    · exact prime_factor_2)
    ⟨[1, 1, 1], by decide +kernel⟩ (by decide +kernel) (by decide +kernel)

/-- A prime factor on the way to p. -/
theorem prime_factor_4 : (1919519569386763 : Nat).Prime :=
  prime_of_lucas 1919519569386763 2 13 [2, 3, 7, 19, 47, 127, 8574133]
    (by decide +kernel) (by decide +kernel)
    (by
    simp only [List.forall_mem_cons, List.not_mem_nil, false_implies, implies_true, and_true]
    refine ⟨?_, ?_, ?_, ?_, ?_, ?_, ?_⟩
    · norm_num
    · norm_num
    · norm_num
    · norm_num
    · norm_num
    · norm_num
    · exact prime_factor_1)
    ⟨[1, 1, 1, 1, 2, 1, 1], by decide +kernel⟩ (by decide +kernel) (by decide +kernel)

/-- A prime factor on the way to p. -/
theorem prime_factor_5 : (31757755568855353 : Nat).Prime :=
  prime_of_lucas 31757755568855353 10 14 [2, 3, 31, 107, 223, 4153, 430751]
    (by decide +kernel) (by decide +kernel)
    (by
    simp only [List.forall_mem_cons, List.not_mem_nil, false_implies, implies_true, and_true]
    refine ⟨?_, ?_, ?_, ?_, ?_, ?_, ?_⟩
    · norm_num
    · norm_num
    · norm_num
    · norm_num
    · norm_num
    · norm_num
    · norm_num)
    ⟨[3, 1, 1, 1, 1, 1, 1], by decide +kernel⟩ (by decide +kernel) (by decide +kernel)

/-- A prime factor on the way to p. -/
theorem prime_factor_6 : (75445702479781427272750846543864801 : Nat).Prime :=
  prime_of_lucas 75445702479781427272750846543864801 7 29 [2, 3, 5, 75707, 72106336199, 1919519569386763]
    (by decide +kernel) (by decide +kernel)
    (by
    simp only [List.forall_mem_cons, List.not_mem_nil, false_implies, implies_true, and_true]
    refine ⟨?_, ?_, ?_, ?_, ?_, ?_⟩
    · norm_num
    · norm_num
    · norm_num
    · norm_num
    · exact prime_factor_3
    · exact prime_factor_4)
    ⟨[5, 2, 2, 1, 1, 1], by decide +kernel⟩ (by decide +kernel) (by decide +kernel)

/-- A prime factor on the way to p. -/
theorem prime_factor_7 : (74058212732561358302231226437062788676166966415465897661863160754340907 : Nat).Prime :=
  prime_of_lucas 74058212732561358302231226437062788676166966415465897661863160754340907 2 59 [2, 3, 353, 57467, 132049, 1923133, 31757755568855353, 75445702479781427272750846543864801]
    (by decide +kernel) (by decide +kernel)
    (by
    simp only [List.forall_mem_cons, List.not_mem_nil, false_implies, implies_true, and_true]
    refine ⟨?_, ?_, ?_, ?_, ?_, ?_, ?_, ?_⟩
    · norm_num
    · norm_num
    · norm_num
    · norm_num
    · norm_num
    · exact prime_factor_0
    · exact prime_factor_5
    · exact prime_factor_6)
    ⟨[1, 1, 1, 1, 1, 1, 1, 1], by decide +kernel⟩ (by decide +kernel) (by decide +kernel)

/-- p is prime. -/
theorem p_prime : Config.p.Prime :=
  prime_of_lucas Config.p 2 64 [2, 3, 65147, 74058212732561358302231226437062788676166966415465897661863160754340907]
    (by decide +kernel) (by decide +kernel)
    (by
    simp only [List.forall_mem_cons, List.not_mem_nil, false_implies, implies_true, and_true]
    refine ⟨?_, ?_, ?_, ?_⟩
    · norm_num
    · norm_num
    · norm_num
    · exact prime_factor_7)
    ⟨[2, 1, 1, 1], by decide +kernel⟩ (by decide +kernel) (by decide +kernel)

end Sys2Proof.Machine
end

