-- ==== Sys2Proof/Laws/Roots.lean ====
section
/-! SUPPORT. How a field element is shown to have no root: a power of it that Euler's criterion forbids to a square. -/

namespace Sys2Proof.Machine

/-- A square other than 0 has 1 as its power to (p − 1)/2. -/
theorem powp_euler_of_hasRoot {a : Fe} (ha : a ≠ feZero) (h : HasRoot a) : powp a ((Config.p - 1) / 2) = feOne := by
  have : Fact Config.p.Prime := ⟨p_prime⟩
  obtain ⟨t, rfl⟩ := h
  have ht : toZ t ≠ 0 := by
    intro h0
    exact ha (toZ_injective (by rw [toZ_mulp, h0, toZ_feZero, mul_zero]))
  have he : 2 * ((Config.p - 1) / 2) = Config.p - 1 := by decide +kernel
  apply toZ_injective
  rw [toZ_powp, toZ_mulp, toZ_feOne, ← pow_two, ← pow_mul, he]
  exact ZMod.pow_card_sub_one_eq_one ht

/-- An element whose power to (p − 1)/2 is not 1, and that is not 0, has no root. -/
theorem not_hasRoot_of_euler {a : Fe} (ha : a ≠ feZero) (h : powp a ((Config.p - 1) / 2) ≠ feOne) : ¬ HasRoot a :=
  fun hr => h (powp_euler_of_hasRoot ha hr)

/-- For the y of a compressed point to have no x on E it is enough that (y² − 1)·(d·y² + 1) is not 0 and has no root. -/
theorem no_x_of_not_hasRoot {y : Fe}
    (h : ¬ HasRoot (mulp (subp (mulp y y) feOne) (addp (mulp dCoeff (mulp y y)) feOne))) : ¬ ∃ x, onCurve x y = true := by
  rintro ⟨x, hx⟩
  refine h ⟨mulp x (addp (mulp dCoeff (mulp y y)) feOne), toZ_injective ?_⟩
  rw [onCurve_iff] at hx
  have hd : toZ dCoeff = (Config.curveD : ZMod Config.p) := by simp [dCoeff]
  simp only [toZ_mulp, toZ_addp, toZ_subp, toZ_feOne, hd]
  linear_combination (-((Config.curveD : ZMod Config.p) * (toZ y * toZ y) + 1)) * hx

end Sys2Proof.Machine
end

