-- ==== Sys2Proof/Machine/Assembler.lean ====
section
/-! DEFINITION. What the assembler of 30_encoding R108 and R109 produces: the pseudo-instructions' expansions, and the
command memory of a list of lines. The text of a line (its letters, commas and comments) is not modelled. -/

namespace Sys2Proof.Machine

/-- The pseudo-instructions (30_encoding R109). -/
inductive Pseudo where
  /-- `FE_ZERO fd`. -/
  | feZero (d : FReg)
  /-- `FE_ONE fd`. -/
  | feOne (d : FReg)
  /-- `FE_DBL fd, fa`. -/
  | feDbl (d a : FReg)
  /-- `SC_ZERO sd`. -/
  | scZero (d : SReg)
  /-- `SC_ONE sd`. -/
  | scOne (d : SReg)
  /-- `CCLR ck`. -/
  | cclr (k : CReg)
  /-- `CONE ck`. -/
  | cone (k : CReg)
deriving DecidableEq, Repr

/-- The one command that a pseudo-instruction is assembled as (30_encoding R109). -/
def expandPseudo : Pseudo → Instr
  | .feZero d => .feLdi d 0
  | .feOne d => .feLdi d 1
  | .feDbl d a => .feAdd d a a
  | .scZero d => .scLdi d 0
  | .scOne d => .scLdi d 1
  | .cclr k => .cset k 0
  | .cone k => .cset k 1

/-- A line of assembly (30_encoding R108). -/
inductive Line where
  /-- A command. -/
  | command (i : Instr)
  /-- A pseudo-instruction. -/
  | pseudo (p : Pseudo)
  /-- `.word w`. -/
  | word (w : Word)
  /-- `.org a`. -/
  | org (a : Nat)
deriving DecidableEq, Repr

/-- The word of a command; none for an immediate out of range, which the assembler refuses (30_encoding R108). -/
def assembleCommand (i : Instr) : Option Word := if i.wellFormed then some (encode i) else none

/-- The lines placed from address a on in memory m; none where the assembler refuses a line (30_encoding R108), or a word
would lie outside IMEM (DESIGN CHOICE, log entry 26; safe). -/
def assembleFrom (a : Nat) (m : Memory) : List Line → Option Memory
  | [] => some m
  | .org b :: rest => if b % 4 = 0 ∧ b < Config.imemBytes then assembleFrom b m rest else none
  | .word w :: rest => if a < Config.imemBytes then assembleFrom (a + 4) (m.writeLE a 4 w.toNat) rest else none
  | .pseudo p :: rest =>
    if a < Config.imemBytes then assembleFrom (a + 4) (m.writeLE a 4 (encode (expandPseudo p)).toNat) rest else none
  | .command i :: rest =>
    match assembleCommand i with
    | none => none
    | some w => if a < Config.imemBytes then assembleFrom (a + 4) (m.writeLE a 4 w.toNat) rest else none

/-- The command memory of a program. DESIGN CHOICE (log entry 26): lines before the first `.org` start at address 0,
bytes that no line places are 0, and a later line wins over an earlier one; 30_encoding R108 says none of these. Safe: no step uses the assembler. -/
def assemble (lines : List Line) : Option Memory := assembleFrom 0 [] lines

end Sys2Proof.Machine
end

