-- ==== Sys2Proof/Tests/Slice0.lean ====
section
/-! SUPPORT. Tests of the model against values of the spec (95_test_vectors, the examples of the rules, 30_encoding R99),
and one witness for the hypotheses of every statement that has any. -/

namespace Sys2Proof.Tests

open Sys2Proof.Machine

set_option Elab.async false

/-! ### Helpers -/

/-- The integer of bytes given in address order. -/
def le (bytes : List Nat) : Nat := bytes.foldr (fun b a => b + 256 * a) 0

/-- State.reset with field registers set. -/
def fs (l : List (FReg × Nat)) (s : State := State.reset) : State := l.foldl (fun s e => s.setF e.1 (Fe.ofNat e.2)) s

/-- State.reset with scalar registers set. -/
def ss (l : List (SReg × Nat)) (s : State := State.reset) : State := l.foldl (fun s e => s.setS e.1 (BitVec.ofNat 256 e.2)) s

/-- State.reset with point registers set. -/
def ps (l : List (PReg × Point)) (s : State := State.reset) : State := l.foldl (fun s e => s.setP e.1 e.2) s

/-- State.reset with condition registers set to 1. -/
def cs (l : List CReg) (s : State := State.reset) : State := l.foldl (fun s i => s.setC i true) s

/-- State.reset with one DMEM slot set. -/
def slot (n : Slot) (v : Nat) (s : State := State.reset) : State := s.writeSlot n v

/-- The command word w, placed where the next step fetches, steps to a state with the property. -/
def ran (w : Nat) (s : State) (ok : State → Bool) : Bool :=
  match step (s.withFetchWord 32 w) with
  | .next t => ok t
  | .fault _ => false
  | .refused _ => false

/-- The outcome is the next state t. -/
def isNext (o : Host.Outcome State Fault Refusal) (t : State) : Bool :=
  match o with
  | .next u => decide (u = t)
  | .fault _ => false
  | .refused _ => false

theorem eq_of_isNext {o : Host.Outcome State Fault Refusal} {t : State} (h : isNext o t = true) : o = .next t := by
  cases o with
  | next u => simp only [isNext, decide_eq_true_eq] at h; rw [h]
  | fault r => simp [isNext] at h
  | refused r => simp [isNext] at h

/-- A running engine with the command w at address a. -/
def running (a w : Nat) : State := { State.reset with pc := BitVec.ofNat 13 a }.withFetchWord 32 w

/-- A state with events to come. -/
def events (l : List Event) (s : State := State.reset) : State := { s with schedule := l }

/-- −B. -/
def minusB : Point := ⟨Fe.ofNat (Config.p - Config.baseX), Fe.ofNat Config.baseY⟩

/-- T2 = (0, p − 1), of order 2 (42_group R185). -/
def pointT2 : Point := ⟨Fe.ofNat 0, Fe.ofNat (Config.p - 1)⟩

/-- enc(T8), T8 of order 8 (42_group R195). -/
def encT8 : Nat := le [0x26, 0xe8, 0x95, 0x8f, 0xc2, 0xb2, 0x27, 0xb0, 0x45, 0xc3, 0xf4, 0x89, 0xf2, 0xef, 0x98, 0xf0,
  0xd5, 0xdf, 0xac, 0x05, 0xd3, 0xc6, 0x33, 0x39, 0xb1, 0x38, 0x02, 0x88, 0x6d, 0x53, 0xfc, 0x05]

/-- T8, by its coordinates (computed outside the model from its encoding). -/
def pointT8 : Point :=
  ⟨Fe.ofNat 14399317868200118260347934320527232580618823971194345261214217575416788799818,
   Fe.ofNat 2707385501144840649318225287225658788936804267575313519463743609750303402022⟩

/-- enc(2B) (42_group R191). -/
def enc2B : Nat := le [0xc9, 0xa3, 0xf8, 0x6a, 0xae, 0x46, 0x5f, 0x0e, 0x56, 0x51, 0x38, 0x64, 0x51, 0x0f, 0x39, 0x97,
  0x56, 0x1f, 0xa2, 0xc9, 0xe8, 0x5e, 0xa2, 0x1d, 0xc2, 0x29, 0x23, 0x09, 0xf3, 0xcd, 0x60, 0x22]

/-- enc(3B) (95_test_vectors 2.4). -/
def enc3B : Nat := le [0xd4, 0xb4, 0xf5, 0x78, 0x48, 0x68, 0xc3, 0x02, 0x04, 0x03, 0x24, 0x67, 0x17, 0xec, 0x16, 0x9f,
  0xf7, 0x9e, 0x26, 0x60, 0x8e, 0xa1, 0x26, 0xa1, 0xab, 0x69, 0xee, 0x77, 0xd1, 0xb1, 0x67, 0x12]

/-- enc(5B) (42_group R196). -/
def enc5B : Nat := le [0xed, 0xc8, 0x76, 0xd6, 0x83, 0x1f, 0xd2, 0x10, 0x5d, 0x0b, 0x43, 0x89, 0xca, 0x2e, 0x28, 0x31,
  0x66, 0x46, 0x92, 0x89, 0x14, 0x6e, 0x2c, 0xe0, 0x6f, 0xae, 0xfe, 0x98, 0xb2, 0x25, 0x48, 0xdf]

/-- enc(8B) (42_group R197). -/
def enc8B : Nat := le [0xb4, 0xb9, 0x37, 0xfc, 0xa9, 0x5b, 0x2f, 0x1e, 0x93, 0xe4, 0x1e, 0x62, 0xfc, 0x3c, 0x78, 0x81,
  0x8f, 0xf3, 0x8a, 0x66, 0x09, 0x6f, 0xad, 0x6e, 0x79, 0x73, 0xe5, 0xc9, 0x00, 0x06, 0xd3, 0x21]

/-- enc(B) = 58 66 ... 66 (00_scope R12). -/
def encB : Nat := le (0x58 :: List.replicate 31 0x66)

/-! ### WellFormed -/

theorem test_wf_refuses_feLdi : (Instr.feLdi 0 1048576).wellFormed = false := by decide
theorem test_wf_refuses_scLdi : (Instr.scLdi 0 1048576).wellFormed = false := by decide
theorem test_wf_refuses_cset : (Instr.cset 0 2).wellFormed = false := by decide
theorem test_wf_accepts : (Instr.feLdi 15 1048575).wellFormed = true ∧ (Instr.scLdi 15 1048575).wellFormed = true ∧
    (Instr.cset 15 1).wellFormed = true := by decide

/-! ### Decoding: words written out from the patterns of 30_encoding R95, with d = 1, a = 2, b = 3, c = 4, e = 5, k = 6
and slot = 0xA7 -/

theorem test_decode_control : ∀ r ∈ ([
    (0x00000000#32, .nop), (0x00000001#32, .halt), (0x00000002#32, .clrall), (0x60001008#32, .cset 6 1),
    (0x60002009#32, .ccpy 6 2), (0x6000200A#32, .cnot 6 2), (0x6003200B#32, .cand 6 2 3), (0x6003200C#32, .cor 6 2 3),
    (0x6003200D#32, .cxor 6 2 3)] : List (Word × Instr)), decode r.1 = .instr r.2 ∧ encode r.2 = r.1 := by decide +kernel

theorem test_decode_field : ∀ r ∈ ([
    (0x00002110#32, .feMov 1 2), (0xABCDE111#32, .feLdi 1 0xABCDE), (0x00032112#32, .feAdd 1 2 3),
    (0x00032113#32, .feSub 1 2 3), (0x00002114#32, .feNeg 1 2), (0x00032115#32, .feMul 1 2 3),
    (0x00002116#32, .feSq 1 2), (0x00002117#32, .feSq2 1 2), (0x00002118#32, .feInv 1 2),
    (0x00002119#32, .fePow22523 1 2), (0x6003211A#32, .feSqrtr 1 6 2 3), (0x6000201B#32, .feIsneg 6 2),
    (0x6000201C#32, .feIszero 6 2), (0x6000211D#32, .feCmov 1 2 6),
    (0x6000211E#32, .feCswap 1 2 6)] : List (Word × Instr)), decode r.1 = .instr r.2 ∧ encode r.2 = r.1 := by
  decide +kernel

theorem test_decode_slots : ∀ r ∈ ([
    (0x00A70120#32, .feLd 1 0xA7), (0x00A70121#32, .feSt 0xA7 1), (0x00A70122#32, .scLd 1 0xA7),
    (0x00A70123#32, .scSt 0xA7 1), (0x60A70124#32, .ptDec 1 6 0xA7), (0x00A70125#32, .ptEnc 0xA7 1),
    (0x00A70026#32, .cLd 0xA7), (0x00A70027#32, .cSt 0xA7)] : List (Word × Instr)),
    decode r.1 = .instr r.2 ∧ encode r.2 = r.1 := by decide +kernel

theorem test_decode_scalar : ∀ r ∈ ([
    (0x00002130#32, .scMov 1 2), (0xABCDE131#32, .scLdi 1 0xABCDE), (0x00032132#32, .scReduce 1 2 3),
    (0x00432133#32, .scMuladd 1 2 3 4), (0x00002134#32, .scClamp 1 2), (0x60002135#32, .scCmov 1 2 6),
    (0x60002036#32, .scIscanon 6 2)] : List (Word × Instr)), decode r.1 = .instr r.2 ∧ encode r.2 = r.1 := by
  decide +kernel

theorem test_decode_group : ∀ r ∈ ([
    (0x00002140#32, .ptMov 1 2), (0x00000141#32, .ptId 1), (0x00000142#32, .ptBase 1), (0x00032143#32, .ptAdd 1 2 3),
    (0x00002144#32, .ptDbl 1 2), (0x00002145#32, .ptNeg 1 2), (0x00002146#32, .ptMul8 1 2),
    (0x60002147#32, .ptCmov 1 2 6), (0x60002048#32, .ptIsid 6 2), (0x00030149#32, .ptSmulb 1 3),
    (0x0003214A#32, .ptSmul 1 2 3), (0x0043214B#32, .ptDsmul 1 2 3 4), (0x6003214C#32, .ptLdaff 1 6 2 3),
    (0x6043214D#32, .ptLdproj 1 6 2 3 4), (0x6543214E#32, .ptLdext 1 6 2 3 4 5),
    (0x0003214F#32, .ptStaff 1 2 3)] : List (Word × Instr)), decode r.1 = .instr r.2 ∧ encode r.2 = r.1 := by
  decide +kernel

theorem test_decode_hash : ∀ r ∈ ([
    (0x00002150#32, .h2pEll2 1 2), (0x60032151#32, .h2pM2e 1 6 2 3),
    (0x00032152#32, .h2p 1 2 3)] : List (Word × Instr)), decode r.1 = .instr r.2 ∧ encode r.2 = r.1 := by decide +kernel

/-- One stray bit in a fixed field of each row that has one (30_encoding R94). -/
theorem test_decode_stray_bits : ([
    0x00000100#32, 0x00000101#32, 0x80000002#32, 0x30003008#32, 0x00010009#32, 0x0000010A#32, 0x0010000B#32,
    0x0100000C#32, 0x0800000D#32, 0x00010010#32, 0x10000112#32, 0x00100013#32, 0x00011014#32, 0x01000015#32,
    0x80000016#32, 0x00080017#32, 0x00800018#32, 0x08000019#32, 0x0010001A#32, 0x0000011B#32, 0x0000081C#32,
    0x0001001D#32, 0x0800001E#32, 0x01000020#32, 0x00001021#32, 0x00008022#32, 0x80000023#32, 0x01000024#32,
    0x10000025#32, 0x00000126#32, 0x00001027#32, 0x00010030#32, 0x00100032#32, 0x01000033#32, 0x00010034#32,
    0x00010035#32, 0x00000136#32, 0x10000040#32, 0x00001041#32, 0x00010042#32, 0x00100043#32, 0x00010044#32,
    0x00080045#32, 0x10000046#32, 0x00010047#32, 0x00000148#32, 0x00001049#32, 0x0010004A#32, 0x0100004B#32,
    0x0010004C#32, 0x0100004D#32, 0x0010004F#32, 0x00010050#32, 0x00100051#32, 0x10000052#32] : List Word).all (fun w => decode w == .illegalField) = true := by
  decide +kernel

/-- Every bit of PT_LDEXT, FE_LDI and SC_LDI above the opcode is a field bit (95_test_vectors 2.1). -/
theorem test_decode_all_ones : decode 0xFFFFFF4E#32 = .instr (.ptLdext 15 15 15 15 15 15) ∧
    decode 0xFFFFFF11#32 = .instr (.feLdi 15 1048575) ∧ decode 0xFFFFFF31#32 = .instr (.scLdi 15 1048575) := by
  decide +kernel

theorem test_decode_illegal_opcodes : ([0x00000003#32, 0x00000007#32, 0x0000000E#32, 0x0000001F#32, 0x00000028#32,
    0x0000002F#32, 0x00000037#32, 0x0000003F#32, 0x00000053#32, 0x000000FF#32, 0xFFFFFFFF#32] : List Word).all (fun w => decode w == .illegalOpcode) = true := by
  decide +kernel

/-- The host's two questions, on the words of three formats. -/
theorem test_decodeTableWord : decodeTableWord 32 0x0043214B = some (.ptDsmul 1 2 3 4) ∧
    decodeTableWord 32 0x00A70120 = some (.feLd 1 0xA7) ∧ decodeTableWord 32 0x10000112 = none := by decide +kernel

/-- Words of Programs 1, 4 and 5 of 95_test_vectors, assembled; a second line placed by `.org`; lines that are refused. -/
theorem test_assemble : assemble [.command (.feLdi 0 5), .word 0x00011014#32] =
      some [(0, 0x11#8), (1, 0x50#8), (4, 0x14#8), (5, 0x10#8), (6, 0x01#8)] ∧
    assemble [.org 0xFFC, .pseudo (.feOne 3)] = some [(0xFFC, 0x11#8), (0xFFD, 0x13#8)] ∧
    assemble [.pseudo (.cclr 0)] = some [(0, 0x08#8)] ∧
    assemble [.org 0xFFC, .command .halt, .command .halt] = none ∧ assemble [.org 2] = none ∧
    assemble [.org 4096] = none ∧ assemble [.command (.feLdi 0 1048576)] = none := by decide +kernel

/-! ### Constants -/

/-- The decimal values of 00_scope R7 and R8. -/
theorem test_constants :
    Config.p = 57896044618658097711785492504343953926634992332820282019728792003956564819949 ∧
    Config.ell = 7237005577332262213973186563042994240857116359379907606001950938285454250989 := by decide +kernel

/-- d = −121665/121666 (00_scope R10); SQRTM1² = −1 (R13); 5·By = 4 and B is on E (R12); T8 is on E. -/
theorem test_curve_constants : (Config.curveD * 121666 + 121665) % Config.p = 0 ∧
    (Config.sqrtM1 ^ 2 + 1) % Config.p = 0 ∧ 5 * Config.baseY % Config.p = 4 ∧
    onCurve basePoint.x basePoint.y = true ∧ encodePoint basePoint = encB ∧ encodePoint pointT8 = encT8 ∧
    onCurve pointT8.x pointT8.y = true := by decide +kernel

/-! ### Control and conditions -/

theorem test_nop : ran 0x00000000 { State.reset with pc := 8#13 } (fun t => t.pc == 12#13 && t.busy && !t.done) = true := by
  decide +kernel
theorem test_halt : ran 0x00000001 { State.reset with pc := 0x40#13, ie := true }
    (fun t => t.statusWord == 2#32 && t.pcWord == 0x40#32 && t.irq) = true := by decide +kernel
theorem test_clrall : ran 0x00000002 (cs [3] (ps [(3, basePoint)] (ss [(3, 9)] (fs [(3, 7)]))))
    (fun t => (t.getF 3).val == 0 && t.getS 3 == 0#256 && t.getP 3 == neutral && !t.getC 3 && t.pc == 4#13) = true := by
  decide +kernel
theorem test_cset : ran 0x30001008 State.reset (fun t => t.getC 3 && !t.getC 2) = true := by decide +kernel
theorem test_cset_zero : ran 0x30000008 (cs [3]) (fun t => !t.getC 3) = true := by decide +kernel
theorem test_ccpy : ran 0x20001009 (cs [1]) (fun t => t.getC 2 && t.getC 1) = true := by decide +kernel
theorem test_cnot_in_place : ran 0x1000100A (cs [1]) (fun t => !t.getC 1) = true := by decide +kernel
theorem test_cand : ran 0x3002100B (cs [1, 3]) (fun t => !t.getC 3) = true := by decide +kernel
theorem test_cor : ran 0x4002100C (cs [1]) (fun t => t.getC 4) = true := by decide +kernel
theorem test_cxor : ran 0x5001100D (cs [1, 5]) (fun t => !t.getC 5) = true := by decide +kernel
theorem test_cxor_differs : ran 0x5002100D (cs [1]) (fun t => t.getC 5) = true := by decide +kernel
theorem test_cLd : ran 0x00040026 (slot 4 0x8005 (cs [1]))
    (fun t => t.cReg.toList == [true, false, true, false, false, false, false, false, false, false, false, false, false,
      false, false, true]) = true := by decide +kernel
theorem test_cLd_ignores_high_bits : ran 0x00040026 (slot 4 (2 ^ 256 - 1)) (fun t => t.cReg.toList.all id) = true := by
  decide +kernel
theorem test_cSt : ran 0x00090027 (cs [0, 3] (slot 9 (2 ^ 256 - 1))) (fun t => t.readSlot 9 == 9) = true := by
  decide +kernel

/-! ### Field commands -/

theorem test_feLd_reduces : ran 0x00000020 (slot 0 (2 ^ 256 - 1)) (fun t => (t.getF 0).val == 18) = true := by
  decide +kernel
theorem test_feLd_of_p : ran 0x00000020 (slot 0 Config.p) (fun t => (t.getF 0).val == 0) = true := by decide +kernel
theorem test_feSt : ran 0x00010021 (fs [(0, Config.p - 1)])
    (fun t => t.readSlot 1 == le (0xec :: List.replicate 30 0xff ++ [0x7f])) = true := by decide +kernel
theorem test_feMov : ran 0x00001010 (fs [(1, 7)]) (fun t => (t.getF 0).val == 7) = true := by decide +kernel
theorem test_feLdi : ran 0x76D06411 State.reset (fun t => (t.getF 4).val == 486662) = true := by decide +kernel
theorem test_feLdi_all_ones : ran 0xFFFFF011 State.reset (fun t => (t.getF 0).val == 1048575) = true := by decide +kernel
theorem test_feAdd_wraps : ran 0x00021312 (fs [(1, Config.p - 1), (2, 1)]) (fun t => (t.getF 3).val == 0) = true := by
  decide +kernel
theorem test_feAdd_same : ran 0x00011012 (fs [(1, Config.p - 1)]) (fun t => (t.getF 0).val == Config.p - 2) = true := by
  decide +kernel
theorem test_feSub_wraps : ran 0x00021313 (fs [(2, 1)]) (fun t => (t.getF 3).val == Config.p - 1) = true := by
  decide +kernel
theorem test_feNeg_zero : ran 0x00001014 State.reset (fun t => (t.getF 0).val == 0) = true := by decide +kernel
theorem test_feNeg_in_place : ran 0x00001114 (fs [(1, 1)]) (fun t => (t.getF 1).val == Config.p - 1) = true := by
  decide +kernel
theorem test_feMul : ran 0x00021015 (fs [(1, 2 ^ 128), (2, 2 ^ 128)]) (fun t => (t.getF 0).val == 38) = true := by
  decide +kernel
theorem test_feMul_minus_one : ran 0x00011015 (fs [(1, Config.p - 1)]) (fun t => (t.getF 0).val == 1) = true := by
  decide +kernel
theorem test_feSq : ran 0x00001116 (fs [(1, 2 ^ 128)]) (fun t => (t.getF 1).val == 38) = true := by decide +kernel
theorem test_feSq2 : ran 0x00001017 (fs [(1, 2 ^ 128)]) (fun t => (t.getF 0).val == 76) = true := by decide +kernel
theorem test_feInv : ran 0x00001018 (fs [(1, 2)]) (fun t => (t.getF 0).val ==
    28948022309329048855892746252171976963317496166410141009864396001978282409975) = true := by decide +kernel
theorem test_feInv_zero : ran 0x00001018 (fs [(0, 7)]) (fun t => (t.getF 0).val == 0 && t.busy && !t.fault) = true := by
  decide +kernel
theorem test_fePow22523 : ran 0x00001019 (fs [(1, 2)]) (fun t => (t.getF 0).val ==
    38788602997682801834296285904666247971040529424372086091236406538540197302351) = true := by decide +kernel
theorem test_feSqrtr_even : ran 0x1003201A (fs [(2, 9), (3, 1)])
    (fun t => (t.getF 0).val == Config.p - 3 && t.getC 1) = true := by decide +kernel
theorem test_feSqrtr_fails : ran 0x1003201A (cs [1] (fs [(0, 5), (2, 2), (3, 1)]))
    (fun t => (t.getF 0).val == 0 && !t.getC 1 && t.busy) = true := by decide +kernel
theorem test_sqrtRatio_corners : sqrtRatio (Fe.ofNat 0) (Fe.ofNat 0) = (Fe.ofNat 0, true) ∧
    sqrtRatio (Fe.ofNat 5) (Fe.ofNat 0) = (Fe.ofNat 0, false) ∧ sqrtRatio (Fe.ofNat 0) (Fe.ofNat 7) = (Fe.ofNat 0, true) ∧
    sqrtRatio (Fe.ofNat (Config.p - 1)) (Fe.ofNat 1) = (Fe.ofNat Config.sqrtM1, true) ∧
    sqrtRatio (Fe.ofNat 1) (Fe.ofNat 9) =
      (Fe.ofNat 19298681539552699237261830834781317975544997444273427339909597334652188273316, true) := by decide +kernel
theorem test_feIsneg : ran 0x0000101B (fs [(1, 1)]) (fun t => t.getC 0) = true := by decide +kernel
theorem test_feIsneg_minus_one : ran 0x0000101B (cs [0] (fs [(1, Config.p - 1)])) (fun t => !t.getC 0) = true := by
  decide +kernel
theorem test_feIszero : ran 0x0000101C State.reset (fun t => t.getC 0) = true := by decide +kernel
theorem test_feCmov_zero : ran 0x2000101D (fs [(0, 5), (1, 6)]) (fun t => (t.getF 0).val == 5) = true := by decide +kernel
theorem test_feCmov_one : ran 0x2000101D (cs [2] (fs [(0, 5), (1, 6)])) (fun t => (t.getF 0).val == 6) = true := by
  decide +kernel
theorem test_feCswap : ran 0x2000101E (cs [2] (fs [(0, 5), (1, 6)]))
    (fun t => (t.getF 0).val == 6 && (t.getF 1).val == 5) = true := by decide +kernel
theorem test_feCswap_same : ran 0x2000001E (cs [2] (fs [(0, 5)])) (fun t => (t.getF 0).val == 5) = true := by
  decide +kernel

/-! ### Scalar commands -/

theorem test_scLd_unreduced : ran 0x00020022 (slot 2 (2 ^ 256 - 1)) (fun t => t.getS 0 == BitVec.ofNat 256 (2 ^ 256 - 1)) =
    true := by decide +kernel
theorem test_scSt : ran 0x00060123 (ss [(1, Config.ell)])
    (fun t => t.dmem.readBytes 192 32 == [0xed#8, 0xd3#8, 0xf5#8, 0x5c#8, 0x1a#8, 0x63#8, 0x12#8, 0x58#8, 0xd6#8, 0x9c#8,
      0xf7#8, 0xa2#8, 0xde#8, 0xf9#8, 0xde#8, 0x14#8] ++ List.replicate 15 0#8 ++ [0x10#8]) = true := by decide +kernel
theorem test_scMov : ran 0x00001030 (ss [(1, 7)]) (fun t => t.getS 0 == 7#256) = true := by decide +kernel
theorem test_scLdi : ran 0x00008231 State.reset (fun t => t.getS 2 == 8#256) = true := by decide +kernel
theorem test_scReduce_halves : ran 0x00010232 (ss [(1, 1)]) (fun t => (t.getS 2).toNat == le [0x1d, 0x95, 0x98, 0x8d, 0x74,
    0x31, 0xec, 0xd6, 0x70, 0xcf, 0x7d, 0x73, 0xf4, 0x5b, 0xef, 0xc6, 0xfe, 0xff, 0xff, 0xff, 0xff, 0xff, 0xff, 0xff, 0xff,
    0xff, 0xff, 0xff, 0xff, 0xff, 0xff, 0x0f]) = true := by decide +kernel
theorem test_scReduce_all_ones : ran 0x00010232 (ss [(0, 2 ^ 256 - 1), (1, 2 ^ 256 - 1)]) (fun t => (t.getS 2).toNat ==
    1627715501170711445284395025044413883736156588369414752970002579683115011840) = true := by decide +kernel
theorem test_scMuladd : ran 0x00210333 (ss [(0, 2), (1, 3), (2, 4)]) (fun t => t.getS 3 == 10#256) = true := by
  decide +kernel
theorem test_scMuladd_mod : ran 0x00210333 (ss [(0, 2), (1, Config.ell), (2, 1)]) (fun t => t.getS 3 == 1#256) = true := by
  decide +kernel
theorem test_scClamp_zero : ran 0x00000134 State.reset (fun t => (t.getS 1).toNat == 2 ^ 254) = true := by decide +kernel
theorem test_scClamp_ones : ran 0x00000134 (ss [(0, 2 ^ 256 - 1)]) (fun t => (t.getS 1).toNat == 2 ^ 255 - 8) = true := by
  decide +kernel
theorem test_scCmov_zero : ran 0x00001035 (ss [(0, 5), (1, 9)]) (fun t => t.getS 0 == 5#256) = true := by decide +kernel
theorem test_scCmov_one : ran 0x00001035 (cs [0] (ss [(0, 5), (1, 9)])) (fun t => t.getS 0 == 9#256) = true := by
  decide +kernel
theorem test_scIscanon_ell : ran 0x00000036 (cs [0] (ss [(0, Config.ell)])) (fun t => !t.getC 0) = true := by
  decide +kernel
theorem test_scIscanon_below : ran 0x00000036 (ss [(0, Config.ell - 1)]) (fun t => t.getC 0) = true := by decide +kernel

/-! ### Group commands -/

theorem test_ptMov : ran 0x00000140 (ps [(0, basePoint)]) (fun t => t.getP 1 == basePoint) = true := by decide +kernel
theorem test_ptId : ran 0x00000341 (ps [(3, basePoint)]) (fun t => (t.getP 3).x.val == 0 && (t.getP 3).y.val == 1) = true := by
  decide +kernel
theorem test_ptBase : ran 0x00000042 State.reset (fun t => encodePoint (t.getP 0) == encB) = true := by decide +kernel
theorem test_ptAdd_same : ran 0x00010243 (ps [(0, basePoint), (1, basePoint)])
    (fun t => encodePoint (t.getP 2) == enc2B) = true := by decide +kernel
theorem test_ptAdd_opposite : ran 0x00010243 (ps [(0, basePoint), (1, minusB)]) (fun t => t.getP 2 == neutral) = true := by
  decide +kernel
theorem test_ptDbl : ran 0x00000044 (ps [(0, basePoint)]) (fun t => encodePoint (t.getP 0) == enc2B) = true := by
  decide +kernel
theorem test_ptDbl_T8 : ran 0x00000144 (ps [(0, pointT8)]) (fun t => encodePoint (t.getP 1) == 0) = true := by
  decide +kernel
theorem test_ptNeg : ran 0x00000145 (ps [(0, basePoint)]) (fun t => encodePoint (t.getP 1) == encB + 2 ^ 255) = true := by
  decide +kernel
theorem test_ptNeg_neutral : ran 0x00000145 State.reset (fun t => t.getP 1 == neutral) = true := by decide +kernel
theorem test_ptSmulb : ran 0x00000049 (ss [(0, 5)]) (fun t => encodePoint (t.getP 0) == enc5B) = true := by decide +kernel
theorem test_ptSmulb_zero : ran 0x00000049 (ps [(0, basePoint)]) (fun t => t.getP 0 == neutral) = true := by decide +kernel
theorem test_ptSmul : ran 0x0000014A (ss [(0, 8)] (ps [(0, pointT8)])) (fun t => t.getP 1 == neutral) = true := by
  decide +kernel
/-- The whole 256-bit scalar counts: ℓ·T8 = 5·T8 (42_group R195). -/
theorem test_ptSmul_full_scalar : ran 0x0000014A (ss [(0, Config.ell)] (ps [(0, pointT8)])) (fun t => encodePoint (t.getP 1) ==
    le [0xc7, 0x17, 0x6a, 0x70, 0x3d, 0x4d, 0xd8, 0x4f, 0xba, 0x3c, 0x0b, 0x76, 0x0d, 0x10, 0x67, 0x0f, 0x2a, 0x20, 0x53, 0xfa,
      0x2c, 0x39, 0xcc, 0xc6, 0x4e, 0xc7, 0xfd, 0x77, 0x92, 0xac, 0x03, 0xfa]) = true := by decide +kernel
theorem test_ptDsmul : ran 0x0010014B (ss [(0, 2), (1, 3)] (ps [(0, basePoint)]))
    (fun t => encodePoint (t.getP 1) == enc5B) = true := by decide +kernel
theorem test_ptMul8 : ran 0x00000146 (ps [(0, basePoint)]) (fun t => encodePoint (t.getP 1) == enc8B) = true := by
  decide +kernel
theorem test_ptMul8_T8 : ran 0x00000146 (ps [(0, pointT8)]) (fun t => t.getP 1 == neutral) = true := by decide +kernel
theorem test_ptCmov : ran 0x00000147 (cs [0] (ps [(0, basePoint)])) (fun t => t.getP 1 == basePoint) = true := by
  decide +kernel
theorem test_ptCmov_zero : ran 0x00000147 (ps [(0, basePoint)]) (fun t => t.getP 1 == neutral) = true := by decide +kernel
theorem test_ptIsid : ran 0x50000048 State.reset (fun t => t.getC 5) = true := by decide +kernel
theorem test_ptIsid_T2 : ran 0x00000048 (cs [0] (ps [(0, pointT2)])) (fun t => !t.getC 0) = true := by decide +kernel
/-- "Decoding a compressed point with high bit set chooses the negative root" (95_test_vectors 1.2). -/
theorem test_ptDec_sign : ran 0x00070024 (slot 7 (encB + 2 ^ 255)) (fun t => t.getP 0 == minusB && t.getC 0) = true := by
  decide +kernel
theorem test_ptDec_fails : ran 0x00070024 (cs [0] (ps [(0, basePoint)] (slot 7 2)))
    (fun t => t.getP 0 == neutral && !t.getC 0 && t.busy) = true := by decide +kernel
theorem test_decodePoint_corners : decodePoint (Config.p + 1) = (neutral, true) ∧
    decodePoint (1 + 2 ^ 255) = (neutral, true) ∧ decodePoint encT8 = (pointT8, true) ∧
    decodePoint Config.p = (⟨Fe.ofNat Config.sqrtM1, Fe.ofNat 0⟩, true) := by decide +kernel
theorem test_ptEnc : ran 0x00030025 (ps [(0, minusB)]) (fun t => t.readSlot 3 == encB + 2 ^ 255) = true := by decide +kernel
theorem test_ptEnc_T2 : ran 0x00000025 (ps [(0, pointT2)])
    (fun t => t.readSlot 0 == le (0xec :: List.replicate 30 0xff ++ [0x7f])) = true := by decide +kernel
theorem test_ptLdaff : ran 0x0001004C (fs [(0, Config.baseX), (1, Config.baseY)])
    (fun t => t.getP 0 == basePoint && t.getC 0) = true := by decide +kernel
theorem test_ptLdaff_off : ran 0x0000004C (cs [0] (ps [(0, basePoint)])) (fun t => t.getP 0 == neutral && !t.getC 0) =
    true := by decide +kernel
theorem test_ptLdproj : ran 0x0021004D
    (fs [(0, 30224442699070801545002302819177063022908025386083714412092226567899695524404),
      (1, 34737626771194858627071295502606372355980995399692169211837275202373938891971), (2, 2)])
    (fun t => t.getP 0 == basePoint && t.getC 0) = true := by decide +kernel
theorem test_ptLdproj_zero_z : ran 0x0021004D (cs [0] (ps [(0, basePoint)]))
    (fun t => t.getP 0 == neutral && !t.getC 0) = true := by decide +kernel
theorem test_ptLdext : ran 0x0321004E
    (fs [(0, 30224442699070801545002302819177063022908025386083714412092226567899695524404),
      (1, 34737626771194858627071295502606372355980995399692169211837275202373938891971), (2, 2),
      (3, 35758763082988260778358940756210441203653418775431027933619539655111069383513)])
    (fun t => t.getP 0 == basePoint && t.getC 0) = true := by decide +kernel
theorem test_ptLdext_wrong_t : ran 0x0321004E
    (cs [0] (fs [(0, 30224442699070801545002302819177063022908025386083714412092226567899695524404),
      (1, 34737626771194858627071295502606372355980995399692169211837275202373938891971), (2, 2)]))
    (fun t => t.getP 0 == neutral && !t.getC 0) = true := by decide +kernel
theorem test_ptStaff : ran 0x0000104F (ps [(0, basePoint)])
    (fun t => (t.getF 0).val == Config.baseX && (t.getF 1).val == Config.baseY) = true := by decide +kernel
/-- With d = a the y, written second, stays (95_test_vectors 2.4). -/
theorem test_ptStaff_same : ran 0x0000004F (ps [(0, basePoint)]) (fun t => (t.getF 0).val == Config.baseY) = true := by
  decide +kernel

/-! ### Hash-to-point commands -/

theorem test_h2pEll2 : ran 0x00000150 (fs [(0, 1)]) (fun t => (t.getF 1).val ==
    38597363079105398474523661669562635951089994888546854679819194669304376384412) = true := by decide +kernel
theorem test_h2pEll2_two : ran 0x00000150 (fs [(0, 2)]) (fun t => (t.getF 1).val ==
    45030256925622964886944271947823075276271660703304663793122393780855105538483) = true := by decide +kernel
theorem test_h2pM2e_sign : ran 0x20010051 (cs [1] (fs [(0, 9)])) (fun t => t.getP 0 == minusB && t.getC 2) = true := by
  decide +kernel
theorem test_h2pM2e_fails : ran 0x20010051 (cs [2] (ps [(0, basePoint)] (fs [(0, 2)])))
    (fun t => t.getP 0 == neutral && !t.getC 2) = true := by decide +kernel
theorem test_m2e_corners : m2e (Fe.ofNat 9) false = (basePoint, true) ∧ m2e (Fe.ofNat 0) false = (pointT2, true) ∧
    m2e (Fe.ofNat 0) true = (pointT2, true) ∧ m2e (Fe.ofNat (Config.p - 1)) false = (neutral, false) := by decide +kernel
theorem test_h2p : ran 0x00000052 (fs [(0, 1)]) (fun t => encodePoint (t.getP 0) ==
    le [0x7c, 0x31, 0x7e, 0x7a, 0x16, 0xc0, 0xff, 0xe1, 0x60, 0xa9, 0xd8, 0x21, 0x97, 0xb4, 0x62, 0xa0, 0xee, 0x52, 0xf0, 0xde,
      0xdc, 0x8d, 0x06, 0x43, 0x50, 0x19, 0x6b, 0x16, 0xf2, 0x67, 0x7f, 0x59]) = true := by decide +kernel
theorem test_h2p_sign : ran 0x00000052 (cs [0] (fs [(0, 1)])) (fun t => encodePoint (t.getP 0) / 2 ^ 248 == 0xd9) = true := by
  decide +kernel

/-! ### Faults (95_test_vectors 2.7) and the host port (2.8) -/

theorem test_illegal_opcode : ran 0x00000003 { State.reset with pc := 0x10#13 } (fun t => t.statusWord == 4#32 &&
    t.faultCause == .illegalOpcode && t.faultPc == 0x10#13 && t.faultInsn == 3#32 && t.pc == 0x10#13) = true := by
  decide +kernel
theorem test_illegal_field : ran 0x00011014 { State.reset with pc := 4#13 } (fun t => t.statusWord == 4#32 &&
    t.faultCause == .illegalField && t.faultPc == 4#13 && t.faultInsn == 0x00011014#32) = true := by decide +kernel

/-- The step answers a state with the property. -/
def stepped (s : State) (ok : State → Bool) : Bool :=
  match step s with
  | .next t => ok t
  | .fault _ => false
  | .refused _ => false

theorem test_fetch_range : stepped { running 0 0 with pc := 4096#13 } (fun t => t.statusWord == 4#32 &&
    t.faultCause == .fetchRange && t.faultPc == 4096#13 && t.faultInsn == 0#32) = true := by decide +kernel
/-- ABORTED is taken before the illegal word (60_exceptions R277). -/
theorem test_abort_first : stepped { running 0x10 3 with abortReq := true } (fun t => t.statusWord == 4#32 &&
    t.faultCause == .aborted && t.faultPc == 0x10#13 && t.faultInsn == 0#32) = true := by decide +kernel
theorem test_read_id : stepped (events [.host (.read 4 0x301C#14)]) (fun t => t.readData == 0x25519007#32) = true := by
  decide +kernel
theorem test_start : stepped (events [.host (.write 4 0x3000#14 0x101#32)]) (fun t => t.ie && t.statusWord == 1#32) = true := by
  decide +kernel
theorem test_two_actions : stepped (events [.host (.write 4 0x3000#14 3#32)] { State.reset with ie := true })
    (fun t => !t.ie && t.statusWord == 8#32) = true := by decide +kernel
theorem test_dmem_read_busy : stepped (events [.host (.read 4 0x1000#14)] (slot 0 1 (running 0 0)))
    (fun t => t.readData == 0#32 && t.herr && t.busy && t.readSlot 0 == 1) = true := by decide +kernel
theorem test_imem_write_busy : stepped (events [.host (.write 4 0#14 1#32)] (running 0 0))
    (fun t => t.herr && t.imem.readLE 0 4 == 0) = true := by decide +kernel
theorem test_herr_cleared : stepped (events [.host (.write 4 0x3004#14 8#32)] { State.reset with herr := true })
    (fun t => t.statusWord == 0#32) = true := by decide +kernel
theorem test_misaligned_read : stepped (events [.host (.read 4 0x1002#14)]) (fun t => t.readData == 0#32 && t.herr) = true := by
  decide +kernel
theorem test_unmapped_read : stepped (events [.host (.read 4 0x3020#14)]) (fun t => t.readData == 0#32 && t.herr) = true := by
  decide +kernel
theorem test_pc_write_ignored : stepped (events [.host (.write 4 0x300C#14 5#32)]) (fun t => t == State.reset) = true := by
  decide +kernel
theorem test_start_pc_masks : stepped (events [.host (.write 4 0x3008#14 0xFFFFFFFF#32)])
    (fun t => t.registerWord 0x3008 == 0xFFC#32 && t.startAddress == 0xFFC#13) = true := by decide +kernel
/-- Words 0 and 7 of slot 2 holding enc(A) (95_test_vectors 2.8). -/
theorem test_dmem_window : (let s := slot 2 (le [0x9c, 0xdc, 0xad, 0xd4, 0x70, 0xc0, 0x55, 0xcc, 0xbf, 0x70, 0x83, 0xba, 0x09,
      0x56, 0xc2, 0x45, 0xc4, 0x2c, 0xad, 0x21, 0xbd, 0x28, 0xad, 0xb8, 0x5f, 0x25, 0x7f, 0x9a, 0x9b, 0xb9, 0x31, 0x9c])
    stepped (events [.host (.read 4 0x1040#14)] s) (fun t => t.readData == 0xD4ADDC9C#32) &&
    stepped (events [.host (.read 4 0x105C#14)] s) (fun t => t.readData == 0x9C31B99B#32)) = true := by decide +kernel
theorem test_zeroize : stepped (events [.host (.write 4 0x3000#14 4#32)] (slot 255 7 (fs [(15, 3)])))
    (fun t => t == State.reset) = true := by decide +kernel
theorem test_reset_input : stepped (events [.reset] (slot 0 1 (fs [(1, 2)] (running 8 0))))
    (fun t => !t.busy && t.statusWord == 0#32 && (t.getF 1).val == 0 && t.readSlot 0 == 1 && t.pc == 0#13) = true := by
  decide +kernel
/-- The window of R63 sits at a multiple of 0x4000. -/
theorem test_window : windowOffset 0x8000 0xB01C = some 0x301C#14 ∧ windowOffset 0x8000 0xC000 = none ∧
    windowOffset 0x8000 0x7FFC = none := by decide +kernel

/-! ### Witnesses: concrete states and operands that meet the hypotheses of the statements together -/

theorem witness_DecodeOfEncode : (Instr.feLdi 15 1048575).wellFormed = true ∧ (Instr.cset 15 1).wellFormed = true ∧
    (Instr.ptLdext 15 0 15 0 15 0).wellFormed = true := by decide
theorem witness_EncodeOfDecode : decode 0xFFFFF111#32 = .instr (.feLdi 1 1048575) ∧ decode 0#32 = .instr .nop := by
  decide +kernel
/-- A row with its mask met, a row with it not met, and opcodes of no row at both ends. -/
theorem witness_DecoderFollowsTheOpcodeMap : opOf 0x00032112#32 = opOf 0x00000012#32 ∧
    0x00032112#32 &&& 0xfff000ff#32 = 0x00000012#32 ∧ opOf 0x10000112#32 = opOf 0x00000012#32 ∧
    0x10000112#32 &&& 0xfff000ff#32 ≠ 0x00000012#32 ∧ opcodeTable.all (fun r => opOf r.fixed != 0x03#8) = true ∧
    opcodeTable.all (fun r => opOf r.fixed != 0xff#8) = true := by decide +kernel

/-- Running at the first and the last command of IMEM, on an empty schedule and on an engine event. -/
theorem witness_StepRunsTheDecodedCommand :
    (let s := running 0 1
     s.schedule = [] ∧ s.busy = true ∧ s.abortReq = false ∧ s.pc.toNat % 4 = 0 ∧ s.pc.toNat < 4096 ∧
      decode (BitVec.ofNat 32 ((s.imem.read s.pc.toNat).toNat + 2 ^ 8 * (s.imem.read (s.pc.toNat + 1)).toNat +
        2 ^ 16 * (s.imem.read (s.pc.toNat + 2)).toNat + 2 ^ 24 * (s.imem.read (s.pc.toNat + 3)).toNat)) = .instr .halt) ∧
    (let s := events [.engine, .reset] (running 4092 0x00032112)
     s.schedule = .engine :: [.reset] ∧ s.busy = true ∧ s.abortReq = false ∧ s.pc.toNat % 4 = 0 ∧ s.pc.toNat < 4096 ∧
      decode (BitVec.ofNat 32 ((s.imem.read s.pc.toNat).toNat + 2 ^ 8 * (s.imem.read (s.pc.toNat + 1)).toNat +
        2 ^ 16 * (s.imem.read (s.pc.toNat + 2)).toNat + 2 ^ 24 * (s.imem.read (s.pc.toNat + 3)).toNat)) =
          .instr (.feAdd 1 2 3)) := by decide +kernel
theorem witness_IdleEngineChangesNothing : State.reset.busy = false ∧ State.reset.schedule = [] ∧
    (events [.engine]).busy = false ∧ (events [.engine]).schedule = .engine :: [] := by decide +kernel
/-- One running state for each clause: an abort pending, pc 4096, no opcode, a stray bit. -/
theorem witness_EngineFaultsAreRecordedInOrder :
    (let s := { running 0 3 with abortReq := true }
     s.schedule = [] ∧ s.busy = true ∧ s.abortReq = true) ∧
    (let s := events [.engine] { running 0 0 with pc := 4096#13 }
     s.schedule = .engine :: [] ∧ s.busy = true ∧ s.abortReq = false ∧ s.pc = 4096#13) ∧
    (let s := running 4092 3
     s.schedule = [] ∧ s.busy = true ∧ s.abortReq = false ∧ isCommandAddress s.pc = true ∧
      unassignedOpcode (opOf s.fetchedWord).toNat) ∧
    (let s := running 0 0x000000FF
     s.schedule = [] ∧ s.busy = true ∧ s.abortReq = false ∧ isCommandAddress s.pc = true ∧
      unassignedOpcode (opOf s.fetchedWord).toNat) ∧
    (let s := running 0 0x00011014
     s.schedule = [] ∧ s.busy = true ∧ s.abortReq = false ∧ isCommandAddress s.pc = true ∧
      decode s.fetchedWord = .illegalField) := by
  unfold unassignedOpcode
  decide +kernel

theorem legal_running_nop : (running 4092 0).Legal := by constructor <;> decide +kernel
theorem legal_running_illegal : (running 0 0x00011014).Legal := by constructor <;> decide +kernel
/-- A state after a fault, with one reset and one host access to come. -/
def faulted : State :=
  { State.reset with
    pc := 4#13, fault := true, faultCause := .illegalOpcode, faultPc := 4#13, faultInsn := 3#32
    dmem := [(0, 1#8), (8191, 255#8)] }
theorem legal_faulted : faulted.Legal := by constructor <;> decide +kernel
theorem legal_done : ({ State.reset with done := true, ie := true, pc := 4092#13 } : State).Legal := by
  constructor <;> decide +kernel

theorem witness_RunEndsWithin1025Steps : (running 4092 0).Legal ∧ (running 4092 0).busy = true ∧
    (running 4092 0).schedule = [] := ⟨legal_running_nop, by decide +kernel⟩
theorem witness_StepKeepsTheMachineLegal : (running 4092 0).Legal ∧
    step (running 4092 0) = .next { running 4092 0 with pc := 4096#13 } :=
  ⟨legal_running_nop, eq_of_isNext (by decide +kernel)⟩
theorem witness_StepKeepsTheMachineLegal_fault : (running 0 0x00011014).Legal ∧
    step (running 0 0x00011014) = .next ((running 0 0x00011014).raiseFault .illegalField 0x00011014#32) :=
  ⟨legal_running_illegal, eq_of_isNext (by decide +kernel)⟩
theorem witness_StepKeepsPointsOnTheCurve : (ps [(0, basePoint), (15, pointT8)] (running 0 0x00000041)).PointsOnE ∧
    step (ps [(0, basePoint), (15, pointT8)] (running 0 0x00000041)) =
      .next { ps [(15, pointT8)] (running 0 0x00000041) with pc := 4#13 } := by
  refine ⟨?_, eq_of_isNext (by decide +kernel)⟩
  unfold State.PointsOnE OnE
  decide +kernel
theorem witness_LegalStatesAlwaysStep : faulted.Legal := legal_faulted
theorem witness_ResetStateIsLegal : Memory.wf Config.imemBytes [(0, 1#8), (4095, 255#8)] = true ∧
    Memory.wf Config.dmemBytes [(8191, 1#8)] = true := by decide +kernel
/-- A command at pc 4092, HALT, and an engine step that takes a fault. -/
theorem witness_PcAdvancesByFourOrStays :
    (Instr.nop ≠ .halt ∧ exec .nop (running 4092 0) = .next { running 4092 0 with pc := 4096#13 } ∧
      (running 4092 0).pc.toNat ≤ 4092) ∧
    exec .halt (running 8 1) = .next (running 8 1).finishRun ∧
    ((running 8 3).engineStep = .next ((running 8 3).raiseFault .illegalOpcode 3#32) ∧ (running 8 3).fault = false ∧
      ((running 8 3).raiseFault .illegalOpcode 3#32).fault = true) :=
  ⟨⟨by decide, eq_of_isNext (by decide +kernel), by decide +kernel⟩, eq_of_isNext (by decide +kernel),
   eq_of_isNext (by decide +kernel), by decide +kernel⟩
/-- A writer of each file, one command at a time, and a store. -/
theorem witness_CommandsWriteOnlyTheirFiles :
    exec (.feLdi 15 3) State.reset = .next { fs [(15, 3)] with pc := 4#13 } ∧
    exec (.scLdi 15 3) State.reset = .next { ss [(15, 3)] with pc := 4#13 } ∧
    exec (.ptBase 15) State.reset = .next { ps [(15, basePoint)] with pc := 4#13 } ∧
    exec (.cset 15 1) State.reset = .next { cs [15] with pc := 4#13 } :=
  ⟨eq_of_isNext (by decide +kernel), eq_of_isNext (by decide +kernel), eq_of_isNext (by decide +kernel),
   eq_of_isNext (by decide +kernel)⟩
theorem witness_OnlySlotStoresChangeDmem :
    exec (.scSt 255 0) (ss [(0, 7)]) = .next { ss [(0, 7)] with pc := 4#13, dmem := [(8160, 7#8)] } ∧
    exec (.feSt 0 0) (fs [(0, 256)]) = .next { fs [(0, 256)] with pc := 4#13, dmem := [(1, 1#8)] } ∧
    exec (.ptEnc 1 0) State.reset = .next { State.reset with pc := 4#13, dmem := [(32, 1#8)] } ∧
    exec (.cSt 0) (cs [15]) = .next { cs [15] with pc := 4#13, dmem := [(1, 128#8)] } ∧
    exec .nop faulted = .next { faulted with pc := 8#13 } :=
  ⟨eq_of_isNext (by decide +kernel), eq_of_isNext (by decide +kernel), eq_of_isNext (by decide +kernel),
   eq_of_isNext (by decide +kernel), eq_of_isNext (by decide +kernel)⟩
theorem witness_ControlFlowIsIndependentOfData :
    SameControl (running 0 0x00032112) (slot 3 5 (ps [(1, basePoint)] (fs [(2, 7)] (running 0 0x00032112)))) := by
  unfold SameControl SameRecord
  decide +kernel

/-- A DMEM in canonical form with both ends written, as the stores ask for. -/
theorem witness_SlotTransfers : faulted.dmem.wf Config.dmemBytes = true := by decide +kernel
/-- What StoresThenLoadsRestore asks for, kind by kind: a store, and a load from a state with the stored DMEM. -/
theorem witness_StoresThenLoadsRestore_conditions :
    exec (.cSt 255) (cs [0, 15]) = .next { cs [0, 15] with pc := 4#13, dmem := [(8160, 1#8), (8161, 128#8)] } ∧
    exec (.cLd 255) { State.reset with dmem := [(8160, 1#8), (8161, 128#8)] } =
      .next { cs [0, 15] with pc := 4#13, dmem := [(8160, 1#8), (8161, 128#8)] } :=
  ⟨eq_of_isNext (by decide +kernel), eq_of_isNext (by decide +kernel)⟩
theorem witness_StoresThenLoadsRestore_field :
    exec (.feSt 255 0) (fs [(0, 258)]) = .next { fs [(0, 258)] with pc := 4#13, dmem := [(8160, 2#8), (8161, 1#8)] } ∧
    exec (.feLd 15 255) { State.reset with dmem := [(8160, 2#8), (8161, 1#8)] } =
      .next { fs [(15, 258)] with pc := 4#13, dmem := [(8160, 2#8), (8161, 1#8)] } :=
  ⟨eq_of_isNext (by decide +kernel), eq_of_isNext (by decide +kernel)⟩
theorem witness_StoresThenLoadsRestore_scalar :
    exec (.scSt 0 0) (ss [(0, 2 ^ 255 + 1)]) =
      .next { ss [(0, 2 ^ 255 + 1)] with pc := 4#13, dmem := [(0, 1#8), (31, 128#8)] } ∧
    exec (.scLd 15 0) { State.reset with dmem := [(0, 1#8), (31, 128#8)] } =
      .next { ss [(15, 2 ^ 255 + 1)] with pc := 4#13, dmem := [(0, 1#8), (31, 128#8)] } :=
  ⟨eq_of_isNext (by decide +kernel), eq_of_isNext (by decide +kernel)⟩
theorem witness_StoresThenLoadsRestore_point : OnE ((ps [(0, neutral)]).getP 0) ∧
    exec (.ptEnc 0 0) (ps [(0, neutral)]) = .next { State.reset with pc := 4#13, dmem := [(0, 1#8)] } ∧
    (ps [(0, neutral)]).dmem.wf Config.dmemBytes = true := by
  refine ⟨?_, eq_of_isNext (by decide +kernel), by decide +kernel⟩
  unfold OnE
  decide +kernel
theorem witness_Immediates : (1 : Nat) < 2 ∧ 1048575 < 2 ^ 20 := by decide
/-- Zero and nonzero operands of an inversion. -/
theorem witness_FieldPowerCommands : (State.reset.getF 0).val = 0 ∧ ((fs [(0, Config.p - 1)]).getF 0).val ≠ 0 := by
  decide +kernel

theorem not_hasRoot_two : ¬ HasRoot (Fe.ofNat 2) := not_hasRoot_of_euler (by decide +kernel) (by decide +kernel)
/-- Bits at the ends of the ranges that the clamp treats apart. -/
theorem witness_ScalarClamp : ∀ e ∈ [(0, false), (2, false), (3, true), (253, true), (254, true), (255, false)],
    e.1 < 256 ∧ (clamp (BitVec.ofNat 256 (2 ^ 256 - 1))).getLsbD e.1 = e.2 := by decide +kernel
/-- A zero denominator, a ratio with a root, and a ratio without one. -/
theorem witness_FieldSquareRootCommand : ((fs [(2, 9)]).getF 3 = feZero) ∧
    ((fs [(2, 9), (3, 1)]).getF 3 ≠ feZero ∧ HasRoot (divp ((fs [(2, 9), (3, 1)]).getF 2) ((fs [(2, 9), (3, 1)]).getF 3))) ∧
    (Fe.ofNat 1 ≠ feZero ∧ ¬ HasRoot (divp (Fe.ofNat 2) (Fe.ofNat 1))) := by
  refine ⟨by decide +kernel, ⟨by decide +kernel, ⟨Fe.ofNat 3, by decide +kernel⟩⟩, by decide +kernel, ?_⟩
  have h : divp (Fe.ofNat 2) (Fe.ofNat 1) = Fe.ofNat 2 := by decide +kernel
  rw [h]
  exact not_hasRoot_two

/-- Points of E of orders 1, 2, 8 and ℓ. -/
theorem witness_AdditionLaw : OnE neutral ∧ OnE pointT2 ∧ OnE pointT8 ∧ OnE basePoint := by
  unfold OnE
  decide +kernel
theorem witness_PointGroupLaws : OnE basePoint ∧ OnE minusB := by
  unfold OnE
  decide +kernel
/-- ℓ·B = O, and T8 shows that ℓ·P need not be O. -/
theorem witness_ScalarMultipleIsRepeatedAddition : OnE basePoint ∧ pointMul Config.ell basePoint = neutral ∧
    OnE pointT8 ∧ pointMul Config.ell pointT8 ≠ neutral := by
  unfold OnE
  decide +kernel

/-- A slot that decodes, and one that does not (y = 2). -/
theorem witness_PointSlotTransfers :
    (∃ x, onCurve x (Fe.ofNat ((slot 7 encT8).readSlot 7 % 2 ^ 255)) = true) ∧
    ¬ ∃ x, onCurve x (Fe.ofNat ((slot 7 2).readSlot 7 % 2 ^ 255)) = true :=
  ⟨⟨pointT8.x, by decide +kernel⟩,
   no_x_of_not_hasRoot (not_hasRoot_of_euler (by decide +kernel) (by decide +kernel))⟩
/-- A canonical string, and strings of the right length that are not: no point, y = p + 1, and x = 0 with the sign bit. -/
theorem witness_PointEncodingRoundTrips : OnE pointT8 ∧ CanonicalCompressed encT8 ∧ ¬ CanonicalCompressed 2 ∧
    ¬ CanonicalCompressed (Config.p + 1) ∧ ¬ CanonicalCompressed (1 + 2 ^ 255) ∧ 2 ^ 256 - 1 < 2 ^ 256 := by
  unfold OnE CanonicalCompressed
  decide +kernel
/-- The pairs of R202, R203 and R204 that are accepted, and ones that are not: off E, Z = 0, and T wrong. -/
theorem witness_CoordinateLoads :
    onCurve (Fe.ofNat 0) (Fe.ofNat 1) = true ∧ ¬ onCurve (Fe.ofNat 0) (Fe.ofNat 0) = true ∧
    ((Fe.ofNat 5).val ≠ 0 ∧ onCurve (divp (Fe.ofNat 0) (Fe.ofNat 5)) (divp (Fe.ofNat 5) (Fe.ofNat 5)) = true) ∧
    ¬ (Fe.ofNat 0).val ≠ 0 ∧
    ((Fe.ofNat 0).val * (Fe.ofNat 5).val % Config.p = (Fe.ofNat 0).val * (Fe.ofNat 5).val % Config.p) ∧
    ¬ ((Fe.ofNat 1).val * (Fe.ofNat 5).val % Config.p = (Fe.ofNat 0).val * (Fe.ofNat 5).val % Config.p) := by
  decide +kernel
theorem witness_StoreAffineCoordinates : (0 : FReg) ≠ 15 := by decide
/-- A u of E's Montgomery form with a root (u = 9, the base point's) and one without (u = 2). -/
theorem witness_HashToPointCommands : HasRoot (montRhs (Fe.ofNat 9)) ∧ ¬ HasRoot (montRhs (Fe.ofNat 2)) :=
  ⟨⟨Fe.ofNat 14781619447589544791020593568409986887264606134616475288964881837755586237401, by decide +kernel⟩,
   not_hasRoot_of_euler (by decide +kernel) (by decide +kernel)⟩
theorem witness_HashSignOnlyNegates : (cs [1] (fs [(0, 1)])).getF 0 = (fs [(0, 1)]).getF 0 ∧
    (fs [(0, 1)]).getC 1 = false ∧ (cs [1] (fs [(0, 1)])).getC 1 = true ∧
    exec (.h2p 0 0 1) (fs [(0, 1)]) = .next { ps [(0, pointMul 8 (m2e (ell2 (Fe.ofNat 1)) false).1)] (fs [(0, 1)]) with
      pc := 4#13 } ∧
    exec (.h2p 0 0 1) (cs [1] (fs [(0, 1)])) =
      .next { ps [(0, pointMul 8 (m2e (ell2 (Fe.ofNat 1)) true).1)] (cs [1] (fs [(0, 1)])) with pc := 4#13 } :=
  ⟨by decide +kernel, by decide +kernel, by decide +kernel, eq_of_isNext (by decide +kernel),
   eq_of_isNext (by decide +kernel)⟩

/-! The host port's hypotheses, at the ends of each range. -/

theorem witness_HostReachesMemoriesWhileIdle : faulted.busy = false ∧
    (∀ o ∈ [0, 0xFFC, 0x1000, 0x2FFC], (BitVec.ofNat 14 o).toNat % 4 = 0 ∧ (BitVec.ofNat 14 o).toNat < 0x3000) := by
  decide +kernel
theorem witness_HostReachesMemories_read : (events [.host (.read 4 0x2FFC#14)] faulted).Legal ∧
    (events [.host (.read 4 0x2FFC#14)] faulted).busy = false ∧
    (events [.host (.read 4 0x2FFC#14)] faulted).schedule = .host (.read 4 0x2FFC#14) :: [] :=
  ⟨by constructor <;> decide +kernel, by decide +kernel⟩
theorem witness_HostReachesMemories_write : (events [.host (.write 4 0xFFC#14 5#32), .engine] faulted).Legal ∧
    (events [.host (.write 4 0xFFC#14 5#32), .engine] faulted).busy = false ∧
    (events [.host (.write 4 0xFFC#14 5#32), .engine] faulted).schedule = .host (.write 4 0xFFC#14 5#32) :: [.engine] :=
  ⟨by constructor <;> decide +kernel, by decide +kernel⟩
/-- The first and the last byte and word of the last slot, by hand: v = 2^248·0xAB + 0xCD01. -/
theorem witness_SlotBytes : faulted.dmem.wf Config.dmemBytes = true ∧ 2 ^ 248 * 0xAB + 0xCD01 < 2 ^ 256 ∧
    (slot 255 (2 ^ 248 * 0xAB + 0xCD01)).dmem = [(8160, 0x01#8), (8161, 0xCD#8), (8191, 0xAB#8)] ∧
    (slot 255 (2 ^ 248 * 0xAB + 0xCD01)).readSlot 255 / 2 ^ (32 * 7) % 2 ^ 32 = 0xAB000000 ∧
    (slot 255 (2 ^ 248 * 0xAB + 0xCD01)).readSlot 255 / 2 ^ (32 * 0) % 2 ^ 32 = 0xCD01 := by decide +kernel
/-- A wrong size, a wrong alignment, both ends of the unmapped range, and both ends of the memories while busy. -/
theorem witness_HostProtocolErrors : (2 : Nat) ≠ 4 ∧ (0x3001#14).toNat % 4 ≠ 0 ∧ 0x3020 ≤ (0x3020#14).toNat ∧
    0x3020 ≤ (0x3FFC#14).toNat ∧ ((running 0 0).busy = true ∧ (0#14).toNat < 0x3000) ∧
    ((running 0 0).busy = true ∧ (0x2FFC#14).toNat < 0x3000) := by decide +kernel
theorem witness_HostProtocolErrors_schedule :
    (events [.host (.read 2 0x3004#14)]).schedule = .host (.read 2 0x3004#14) :: [] ∧
    (events [.host (.write 4 0#14 1#32)] (running 0 0)).schedule = .host (.write 4 0#14 1#32) :: [] ∧
    (events [.host (.write 4 0#14 1#32)] (running 0 0)).busy = true := by decide +kernel
/-- One word for each clause of CTRL: none, two and three actions, START, ABORT and ZEROIZE. -/
theorem witness_CtrlWriteActions :
    (let n := fun w : Word => (w.getLsbD 0).toNat + (w.getLsbD 1).toNat + (w.getLsbD 2).toNat
     n 0xFFFFFFF8#32 = 0 ∧ 2 ≤ n 3#32 ∧ 2 ≤ n 0xFFFFFFFF#32 ∧ (n 0x101#32 = 1 ∧ (0x101#32).getLsbD 0 = true) ∧
     (n 2#32 = 1 ∧ (2#32).getLsbD 1 = true) ∧ n 4#32 = 1 ∧ (4#32).getLsbD 2 = true) ∧
    (events [.host (.write 4 0x3000#14 1#32)]).schedule = .host (.write 4 0x3000#14 1#32) :: [] ∧
    (events [.host (.write 4 0x3000#14 1#32)]).busy = false ∧
    (events [.host (.write 4 0x3000#14 1#32)] (running 0 0)).schedule = .host (.write 4 0x3000#14 1#32) :: [] ∧
    (events [.host (.write 4 0x3000#14 1#32)] (running 0 0)).busy = true ∧
    (events [.host (.read 4 0x3000#14)]).schedule = .host (.read 4 0x3000#14) :: [] ∧
    ({ running 0 0 with abortReq := true }.schedule = [] ∧ { running 0 0 with abortReq := true }.busy = true) ∧
    ((events [.engine, .reset] { running 0 0 with abortReq := true }).schedule = .engine :: [.reset] ∧
      (events [.engine, .reset] { running 0 0 with abortReq := true }).busy = true ∧
      (events [.engine, .reset] { running 0 0 with abortReq := true }).abortReq = true) := by
  decide +kernel
theorem witness_StatusStartPcAndReadOnlyWrites :
    (events [.host (.write 4 0x3004#14 14#32)]).schedule = .host (.write 4 0x3004#14 14#32) :: [] ∧
    (events [.host (.write 4 0x3008#14 0xFFFFFFFF#32)]).schedule = .host (.write 4 0x3008#14 0xFFFFFFFF#32) :: [] ∧
    (events [.host (.write 4 0x300C#14 1#32)]).schedule = .host (.write 4 0x300C#14 1#32) :: [] ∧
    (events [.host (.write 4 0x301C#14 1#32)]).schedule = .host (.write 4 0x301C#14 1#32) :: [] := by decide +kernel
/-- A read of each register, PC in both modes, and a legal idle state with a fault recorded. -/
theorem witness_HostRegisterReads :
    (∀ o ∈ [0x3004, 0x3008, 0x300C, 0x3010, 0x3014, 0x3018, 0x301C],
      (events [.host (.read 4 (BitVec.ofNat 14 o))] faulted).schedule = .host (.read 4 (BitVec.ofNat 14 o)) :: []) ∧
    (faulted.faultCause, 1) ∈ [(FaultCause.none, 0), (.illegalOpcode, 1), (.illegalField, 2), (.fetchRange, 3), (.aborted, 4)] ∧
    (events [.host (.read 4 0x300C#14)] (running 0 0)).schedule = .host (.read 4 0x300C#14) :: [] ∧
    (events [.host (.read 4 0x300C#14)] (running 0 0)).busy = true ∧
    faulted.busy = false ∧ faulted.faultCause ≠ .none := by decide +kernel
theorem witness_HostRegisterReads_fault : faulted.Legal ∧ faulted.busy = false ∧ faulted.faultCause ≠ .none :=
  ⟨legal_faulted, by decide +kernel⟩
theorem witness_ResetInputEndsTheRun : (events [.reset, .engine] (running 8 0)).schedule = .reset :: [.engine] := by
  decide +kernel

end Sys2Proof.Tests
end

/-! O30: the model's `isSquare` against the existence of a root (00_scope R15; log entry 9). In ZMod p both halves are
Euler's criterion; 0, which the criterion leaves out, is its own root and has the power 0. -/

namespace Sys2Proof.Machine

/-- Every residue is the image of a field element. -/
theorem toZ_surjective (z : ZMod Config.p) : ∃ t : Fe, toZ t = z := by
  have : NeZero Config.p := ⟨p_prime.ne_zero⟩
  exact ⟨Fe.ofNat z.val, by rw [toZ_ofNat, ZMod.natCast_zmod_val]⟩

/-- A root among the field elements is a root in ZMod p. -/
theorem hasRoot_iff_isSquare_toZ (a : Fe) : HasRoot a ↔ IsSquare (toZ a) := by
  constructor
  · rintro ⟨t, rfl⟩
    exact ⟨toZ t, toZ_mulp t t⟩
  · rintro ⟨z, hz⟩
    obtain ⟨t, rfl⟩ := toZ_surjective z
    exact ⟨t, toZ_injective (by rw [toZ_mulp, hz])⟩

theorem hasRoot_feZero : HasRoot feZero := ⟨feZero, toZ_injective (by simp)⟩

/-- The power of 0 to an exponent other than 0 is 0 (00_scope R15). -/
theorem powp_feZero {e : Nat} (he : e ≠ 0) : powp feZero e = feZero :=
  toZ_injective (by rw [toZ_powp, toZ_feZero, zero_pow he])

/-- A power of an element other than 0 is not 0. -/
theorem powp_ne_feZero {a : Fe} (ha : a ≠ feZero) (e : Nat) : powp a e ≠ feZero := by
  have : Fact Config.p.Prime := ⟨p_prime⟩
  rw [Ne, ← toZ_inj, toZ_feZero] at ha ⊢
  rw [toZ_powp]
  exact pow_ne_zero e ha

/-- Euler's criterion on field elements: the converse of `powp_euler_of_hasRoot` included. -/
theorem hasRoot_iff_powp_euler {a : Fe} (ha : a ≠ feZero) :
    HasRoot a ↔ powp a ((Config.p - 1) / 2) = feOne := by
  refine ⟨powp_euler_of_hasRoot ha, fun h => ?_⟩
  have : Fact Config.p.Prime := ⟨p_prime⟩
  have ha' : toZ a ≠ 0 := by rwa [← toZ_feZero, Ne, toZ_inj]
  have hhalf : Config.p / 2 = (Config.p - 1) / 2 := by decide +kernel
  rw [hasRoot_iff_isSquare_toZ, ZMod.euler_criterion Config.p ha', hhalf, ← toZ_powp, h, toZ_feOne]

/-- The values below 2 that `is_square` accepts are the field elements 0 and 1. -/
theorem isSquare_iff_powp (a : Fe) : isSquare a = true ↔
    powp a ((Config.p - 1) / 2) = feZero ∨ powp a ((Config.p - 1) / 2) = feOne := by
  have hzero : feZero.val = 0 := by decide +kernel
  have hone : feOne.val = 1 := by decide +kernel
  rw [isSquare, decide_eq_true_iff, Fin.ext_iff, Fin.ext_iff, hzero, hone]
  omega

/-- Settles O30: 0 is apart, and elsewhere the power is never 0, so that `is_square` asks for the 1 of Euler's
criterion. -/
theorem isSquareIsHavingARoot : Obligations.IsSquareIsHavingARoot := by
  intro a
  rw [isSquare_iff_powp]
  by_cases ha : a = feZero
  · subst ha
    have hpow : powp feZero ((Config.p - 1) / 2) = feZero := powp_feZero (by decide +kernel)
    exact iff_of_true (.inl hpow) hasRoot_feZero
  · rw [or_iff_right (powp_ne_feZero ha _), hasRoot_iff_powp_euler ha]

end Sys2Proof.Machine

/-! The curve E in ZMod p: square roots, the addition law's completeness, and the points that decoding and hashing give
(41_field R153, 42_group R182 to R187, 44_hash_to_point R251). -/

namespace Sys2Proof.Machine

/-! ### Quotients and roots -/

theorem toZ_eq_zero_iff (a : Fe) : toZ a = 0 ↔ a = feZero := by rw [← toZ_feZero, toZ_inj]

/-- A quotient by an element other than 0 is the quotient of the field. -/
theorem toZ_divp_mul (a : Fe) {b : Fe} (hb : b ≠ feZero) : toZ (divp a b) * toZ b = toZ a := by
  have : Fact Config.p.Prime := ⟨p_prime⟩
  have hpow : toZ b ^ (Config.p - 2) * toZ b = 1 := by
    have he : Config.p - 2 + 1 = Config.p - 1 := by decide +kernel
    rw [← pow_succ, he]
    exact ZMod.pow_card_sub_one_eq_one (mt (toZ_eq_zero_iff b).1 hb)
  rw [toZ_divp, mul_assoc, hpow, mul_one]

/-- SQRTM1 is a root of −1 (00_scope R13). -/
theorem toZ_sqrtM1_mul_self : toZ (Fe.ofNat Config.sqrtM1) * toZ (Fe.ofNat Config.sqrtM1) = -1 := by
  have h : mulp (Fe.ofNat Config.sqrtM1) (Fe.ofNat Config.sqrtM1) = negp feOne := by decide +kernel
  rw [← toZ_mulp, h, toZ_negp, toZ_feOne]

/-- r^((p−1)/4) of a square r other than 0 is one of the two roots of 1. -/
theorem powp_quarter_of_hasRoot {r : Fe} (hr : r ≠ feZero) (h : HasRoot r) :
    toZ r ^ ((Config.p - 1) / 4) = 1 ∨ toZ r ^ ((Config.p - 1) / 4) = -1 := by
  have : Fact Config.p.Prime := ⟨p_prime⟩
  have he : (Config.p - 1) / 4 * 2 = (Config.p - 1) / 2 := by decide +kernel
  rw [← sq_eq_one_iff, ← pow_mul, he, ← toZ_powp, powp_euler_of_hasRoot hr h, toZ_feOne]

/-- The model's root of a square squares back to it (log entry 8). -/
theorem rootOf_mul_self {r : Fe} (h : HasRoot r) : mulp (rootOf r) (rootOf r) = r := by
  simp only [rootOf]
  split
  case isTrue hroot => exact hroot
  case isFalse hroot =>
    have he : (Config.p + 3) / 8 + (Config.p + 3) / 8 = (Config.p - 1) / 4 + 1 := by decide +kernel
    have ht : toZ (powp r ((Config.p + 3) / 8)) * toZ (powp r ((Config.p + 3) / 8)) =
        toZ r ^ ((Config.p - 1) / 4) * toZ r := by
      rw [toZ_powp, ← pow_add, he, pow_succ]
    rw [← toZ_inj, toZ_mulp, ht] at hroot
    have hr : r ≠ feZero := by
      rintro rfl
      exact hroot (by rw [toZ_feZero, mul_zero])
    rcases powp_quarter_of_hasRoot hr h with h1 | h1
    · exact absurd (by rw [h1, one_mul]) hroot
    · apply toZ_injective
      rw [toZ_mulp, toZ_mulp]
      linear_combination toZ r ^ ((Config.p - 1) / 4) * toZ r * toZ_sqrtM1_mul_self +
        toZ (Fe.ofNat Config.sqrtM1) * toZ (Fe.ofNat Config.sqrtM1) * ht - toZ r * h1

/-- Choosing the parity of a root keeps its square. -/
theorem toZ_withParity_mul_self (sign : Bool) (a : Fe) :
    toZ (withParity sign a) * toZ (withParity sign a) = toZ a * toZ a := by
  unfold withParity
  split
  · rfl
  · rw [toZ_negp, neg_mul_neg]

/-- `sqrt_ratio` of a ratio with a root succeeds with one (41_field R153). -/
theorem sqrtRatio_of_hasRoot {num den : Fe} (hden : den ≠ feZero) (h : HasRoot (divp num den)) :
    (sqrtRatio num den).2 = true ∧
    toZ (sqrtRatio num den).1 * toZ (sqrtRatio num den).1 * toZ den = toZ num := by
  have hsq : isSquare (divp num den) = true := (isSquareIsHavingARoot _).2 h
  have hval : sqrtRatio num den = (withParity false (rootOf (divp num den)), true) := by
    simp [sqrtRatio, hden, hsq]
  rw [hval]
  refine ⟨rfl, ?_⟩
  rw [toZ_withParity_mul_self, ← toZ_mulp, rootOf_mul_self h, toZ_divp_mul num hden]

/-- `sqrt_ratio` succeeds on a denominator other than 0 only where the ratio has a root. -/
theorem hasRoot_of_sqrtRatio {num den : Fe} (hden : den ≠ feZero) (h : (sqrtRatio num den).2 = true) :
    HasRoot (divp num den) := by
  by_contra hno
  have hsq : ¬ isSquare (divp num den) = true := mt (isSquareIsHavingARoot _).1 hno
  simp [sqrtRatio, hden, hsq] at h

/-! ### The addition law -/

/-- A square times d, d itself no square, is a square only if it is 0. -/
theorem eq_zero_of_nonsquare_mul {K : Type} [Field K] {d a b : K} (hd : ¬ IsSquare d)
    (h : a * a = d * (b * b)) : b = 0 := by
  by_contra hb
  refine hd ⟨a / b, ?_⟩
  rw [div_mul_div_comm, h, mul_div_cancel_right₀ d (mul_ne_zero hb hb)]

section EdwardsCurve

variable {K : Type} [Field K] {d x1 y1 x2 y2 t : K}
  (e1 : -(x1 * x1) + y1 * y1 = 1 + d * (x1 * x1 * (y1 * y1)))
  (e2 : -(x2 * x2) + y2 * y2 = 1 + d * (x2 * x2 * (y2 * y2)))
  (ht : t = d * (x1 * x2 * (y1 * y2)))

include e1 e2 ht

/-- Bernstein and Lange's completeness: where −1 is a square i² and d is none, the product t of two points' coordinates
is never 1 or −1. If it were, (i·x1 ± t·y1)² = d·(x1·y1·(i·x2 ± y2))² for both signs, so that both x1·y1·(i·x2 ± y2)
are 0, and with them t. -/
theorem edwards_product_sq_ne_one {i : K} (h2 : (2 : K) ≠ 0) (hi : i * i = -1) (hd : ¬ IsSquare d) : t * t ≠ 1 := by
  intro hone
  have hplus : x1 * y1 * (i * x2 + y2) = 0 := by
    apply eq_zero_of_nonsquare_mul (a := i * x1 + t * y1) hd
    linear_combination (x1 * x1 - d * x1 * x1 * y1 * y1 * x2 * x2) * hi + e1 - d * x1 * x1 * y1 * y1 * e2 +
      (y1 * y1 - 1) * hone + (t + d * (x1 * x2 * (y1 * y2)) + 2 * i * x1 * y1) * ht
  have hminus : x1 * y1 * (i * x2 - y2) = 0 := by
    apply eq_zero_of_nonsquare_mul (a := i * x1 - t * y1) hd
    linear_combination (x1 * x1 - d * x1 * x1 * y1 * y1 * x2 * x2) * hi + e1 - d * x1 * x1 * y1 * y1 * e2 +
      (y1 * y1 - 1) * hone + (t + d * (x1 * x2 * (y1 * y2)) - 2 * i * x1 * y1) * ht
  have hxyy : x1 * y1 * y2 = 0 := by
    apply (mul_eq_zero.1 _).resolve_left h2
    linear_combination hplus - hminus
  have hzero : t = 0 := by linear_combination ht + d * x2 * hxyy
  rw [hzero, mul_zero] at hone
  exact zero_ne_one hone

/-- The sum of two points of the curve is on it. With u = d·x1²·y1² and v = d·x2²·y2², so that t² = u·v, the curve's
equation for the sum comes down to (1 + u)(1 + v)(1 + uv) − (1 − uv)² = u(1 + v)² + v(1 + u)². -/
theorem edwards_sum_on_curve {x y : K} (hplus : 1 + t ≠ 0) (hminus : 1 - t ≠ 0)
    (hx : x * (1 + t) = x1 * y2 + y1 * x2) (hy : y * (1 - t) = y1 * y2 + x1 * x2) :
    -(x * x) + y * y = 1 + d * (x * x * (y * y)) := by
  have key : -((x1 * y2 + y1 * x2) ^ 2 * (1 - t) ^ 2) + (y1 * y2 + x1 * x2) ^ 2 * (1 + t) ^ 2 =
      (1 + t) ^ 2 * (1 - t) ^ 2 + d * (x1 * y2 + y1 * x2) ^ 2 * (y1 * y2 + x1 * x2) ^ 2 := by
    subst ht
    linear_combination
      ((y2 ^ 2 - x2 ^ 2) * (1 + d ^ 2 * x1 ^ 2 * y1 ^ 2 * x2 ^ 2 * y2 ^ 2) -
        d * x2 ^ 2 * y2 ^ 2 * (y1 ^ 2 - x1 ^ 2 + 1 + d * x1 ^ 2 * y1 ^ 2)) * e1 +
      ((1 + d * x1 ^ 2 * y1 ^ 2) * (1 + d ^ 2 * x1 ^ 2 * y1 ^ 2 * x2 ^ 2 * y2 ^ 2) -
        d * x1 ^ 2 * y1 ^ 2 * (y2 ^ 2 - x2 ^ 2 + 1 + d * x2 ^ 2 * y2 ^ 2)) * e2
  rw [← hx, ← hy] at key
  apply mul_right_cancel₀ (pow_ne_zero 2 (mul_ne_zero hplus hminus))
  linear_combination key

end EdwardsCurve

theorem toZ_dCoeff : toZ dCoeff = (Config.curveD : ZMod Config.p) := toZ_ofNat _

/-- The product t = d·x1·x2·y1·y2 of the addition law (42_group R186). -/
def lawProduct (P Q : Point) : Fe := mulp dCoeff (mulp (mulp P.x Q.x) (mulp P.y Q.y))

theorem toZ_lawProduct (P Q : Point) :
    toZ (lawProduct P Q) = (Config.curveD : ZMod Config.p) * (toZ P.x * toZ Q.x * (toZ P.y * toZ Q.y)) := by
  simp [lawProduct, toZ_dCoeff]

/-- d is no square, so that the addition law is complete (42_group R186). -/
theorem not_isSquare_curveD : ¬ IsSquare (Config.curveD : ZMod Config.p) := by
  have h : ¬ HasRoot dCoeff := not_hasRoot_of_euler (by decide +kernel) (by decide +kernel)
  rwa [hasRoot_iff_isSquare_toZ, toZ_dCoeff] at h

/-- Neither denominator of the addition law is 0 on E. -/
theorem lawProduct_denominators {P Q : Point} (hP : OnE P) (hQ : OnE Q) :
    addp feOne (lawProduct P Q) ≠ feZero ∧ subp feOne (lawProduct P Q) ≠ feZero := by
  have : Fact Config.p.Prime := ⟨p_prime⟩
  have h2 : (2 : ZMod Config.p) ≠ 0 := by
    have h : Fe.ofNat 2 ≠ feZero := by decide +kernel
    rwa [Ne, ← toZ_inj, toZ_ofNat, toZ_feZero] at h
  have hne : toZ (lawProduct P Q) * toZ (lawProduct P Q) ≠ 1 :=
    edwards_product_sq_ne_one ((onCurve_iff _ _).1 hP) ((onCurve_iff _ _).1 hQ) (toZ_lawProduct P Q) h2
      toZ_sqrtM1_mul_self not_isSquare_curveD
  constructor
  · intro h
    have hz : 1 + toZ (lawProduct P Q) = 0 := by rw [← toZ_feOne, ← toZ_addp, h, toZ_feZero]
    exact hne (by linear_combination (toZ (lawProduct P Q) - 1) * hz)
  · intro h
    have hz : 1 - toZ (lawProduct P Q) = 0 := by rw [← toZ_feOne, ← toZ_subp, h, toZ_feZero]
    exact hne (by linear_combination (-1 - toZ (lawProduct P Q)) * hz)

theorem pointAdd_x (P Q : Point) : (pointAdd P Q).x =
    divp (addp (mulp P.x Q.y) (mulp P.y Q.x)) (addp feOne (lawProduct P Q)) := rfl

theorem pointAdd_y (P Q : Point) : (pointAdd P Q).y =
    divp (addp (mulp P.y Q.y) (mulp P.x Q.x)) (subp feOne (lawProduct P Q)) := rfl

/-- The defining equation of the sum's x (42_group R185). -/
theorem pointAdd_x_mul {P Q : Point} (h : addp feOne (lawProduct P Q) ≠ feZero) :
    toZ (pointAdd P Q).x * (1 + toZ (lawProduct P Q)) = toZ P.x * toZ Q.y + toZ P.y * toZ Q.x := by
  have hdiv := toZ_divp_mul (addp (mulp P.x Q.y) (mulp P.y Q.x)) h
  rw [← pointAdd_x] at hdiv
  simpa only [toZ_addp, toZ_mulp, toZ_feOne] using hdiv

/-- The defining equation of the sum's y (42_group R185). -/
theorem pointAdd_y_mul {P Q : Point} (h : subp feOne (lawProduct P Q) ≠ feZero) :
    toZ (pointAdd P Q).y * (1 - toZ (lawProduct P Q)) = toZ P.y * toZ Q.y + toZ P.x * toZ Q.x := by
  have hdiv := toZ_divp_mul (addp (mulp P.y Q.y) (mulp P.x Q.x)) h
  rw [← pointAdd_y] at hdiv
  simpa only [toZ_addp, toZ_subp, toZ_mulp, toZ_feOne] using hdiv

/-! ### Points of E -/

theorem onE_neutral : OnE neutral := (onCurve_iff _ _).2 (by simp [neutral])

theorem onE_basePoint : OnE basePoint := by
  unfold OnE
  decide +kernel

theorem onE_pointNeg {P : Point} (hP : OnE P) : OnE (pointNeg P) := by
  rw [OnE, onCurve_iff] at hP ⊢
  simpa [pointNeg] using hP

/-- E is closed under its addition law (42_group R186). -/
theorem onE_pointAdd {P Q : Point} (hP : OnE P) (hQ : OnE Q) : OnE (pointAdd P Q) := by
  have : Fact Config.p.Prime := ⟨p_prime⟩
  obtain ⟨hplus, hminus⟩ := lawProduct_denominators hP hQ
  have hx := pointAdd_x_mul hplus
  have hy := pointAdd_y_mul hminus
  rw [Ne, ← toZ_eq_zero_iff, toZ_addp, toZ_feOne] at hplus
  rw [Ne, ← toZ_eq_zero_iff, toZ_subp, toZ_feOne] at hminus
  exact (onCurve_iff _ _).2 (edwards_sum_on_curve ((onCurve_iff _ _).1 hP) ((onCurve_iff _ _).1 hQ)
    (toZ_lawProduct P Q) hplus hminus hx hy)

/-- Doubling and adding stays on E, digit by digit. -/
theorem onE_doubleAndAdd {P : Point} (hP : OnE P) : ∀ k n, OnE (doubleAndAdd P k n) := by
  intro k
  induction k with
  | zero => exact fun _ => onE_neutral
  | succ k ih =>
    intro n
    have hD := onE_pointAdd (ih (n / 2)) (ih (n / 2))
    simp only [doubleAndAdd]
    split
    · exact onE_pointAdd hD hP
    · exact hD

theorem onE_pointMul {P : Point} (hP : OnE P) (n : Nat) : OnE (pointMul n P) := onE_doubleAndAdd hP _ n

/-- A loaded affine pair was tested (42_group R202). -/
theorem onE_loadAffine (x y : Fe) : OnE (loadAffine x y).1 := by
  unfold loadAffine
  split
  case isTrue h => exact h
  case isFalse => exact onE_neutral

theorem onE_loadProjective (X Y Z : Fe) : OnE (loadProjective X Y Z).1 := by
  unfold loadProjective
  split
  · exact onE_neutral
  · exact onE_loadAffine _ _

theorem onE_loadExtended (X Y Z T : Fe) : OnE (loadExtended X Y Z T).1 := by
  unfold loadExtended
  split
  · exact onE_loadProjective X Y Z
  · exact onE_neutral

/-- The denominator d·y² + 1 of decoding is never 0, for d would be the square (i/y)² (42_group R182). -/
theorem decode_denominator_ne_zero (y : Fe) : addp (mulp dCoeff (mulp y y)) feOne ≠ feZero := by
  have : Fact Config.p.Prime := ⟨p_prime⟩
  intro h
  have hz : (Config.curveD : ZMod Config.p) * (toZ y * toZ y) + 1 = 0 := by
    rw [← toZ_eq_zero_iff] at h
    simpa [toZ_dCoeff] using h
  have hy : toZ y = 0 := eq_zero_of_nonsquare_mul not_isSquare_curveD
    (a := toZ (Fe.ofNat Config.sqrtM1)) (by linear_combination toZ_sqrtM1_mul_self - hz)
  rw [hy] at hz
  simp at hz

/-- A decoded point is on E: its x is a root of (y² − 1)/(d·y² + 1) (42_group R182). -/
theorem onE_decodePoint (v : Nat) : OnE (decodePoint v).1 := by
  simp only [decodePoint]
  split
  case isFalse => exact onE_neutral
  case isTrue hok =>
    have hden := decode_denominator_ne_zero (compressedY v)
    obtain ⟨_, hroot⟩ := sqrtRatio_of_hasRoot hden (hasRoot_of_sqrtRatio hden hok)
    refine (onCurve_iff _ _).2 ?_
    simp only [toZ_withParity_mul_self]
    simp only [toZ_addp, toZ_subp, toZ_mulp, toZ_feOne, toZ_dCoeff] at hroot
    linear_combination -hroot

/-! ### Hashing to E -/

theorem toZ_montQuadratic (u : Fe) : toZ (montQuadratic u) = toZ u * toZ u + 486662 * toZ u + 1 := by
  have hA : toZ montCoeff = 486662 := toZ_ofNat 486662
  rw [montQuadratic, toZ_addp, toZ_addp, toZ_mulp, toZ_mulp, toZ_feOne, hA]

theorem toZ_montRhs (u : Fe) : toZ (montRhs u) = toZ u * toZ (montQuadratic u) := toZ_mulp _ _

/-- u = −1 is on no point of the Montgomery curve: u³ + A_M·u² + u is there A_M − 2, which is no square
(44_hash_to_point R251). -/
theorem addp_one_ne_zero_of_hasRoot {u : Fe} (h : HasRoot (montRhs u)) : addp u feOne ≠ feZero := by
  intro hz
  rw [← toZ_eq_zero_iff, toZ_addp, toZ_feOne] at hz
  have hno : ¬ HasRoot (Fe.ofNat 486660) := not_hasRoot_of_euler (by decide +kernel) (by decide +kernel)
  have hval : montRhs u = Fe.ofNat 486660 := by
    apply toZ_injective
    rw [toZ_montRhs, toZ_montQuadratic, toZ_ofNat, eq_neg_of_add_eq_zero_left hz]
    push_cast
    ring
  exact hno (hval ▸ h)

/-- u² + A_M·u + 1 has no zero, for 4·(u² + A_M·u + 1) = (2·u + A_M)² − (A_M² − 4) and A_M² − 4 is no square. -/
theorem montQuadratic_ne_zero (u : Fe) : montQuadratic u ≠ feZero := by
  intro hz
  rw [← toZ_eq_zero_iff, toZ_montQuadratic] at hz
  have hno : ¬ HasRoot (Fe.ofNat (486662 * 486662 - 4)) :=
    not_hasRoot_of_euler (by decide +kernel) (by decide +kernel)
  refine hno ⟨addp (mulp (Fe.ofNat 2) u) (Fe.ofNat 486662), toZ_injective ?_⟩
  simp only [toZ_mulp, toZ_addp, toZ_ofNat]
  push_cast
  linear_combination 4 * hz

/-- d·(A_M + 2) = −(A_M − 2) (00_scope R9, R10). -/
theorem curveD_mul_montA_add_two : (Config.curveD : ZMod Config.p) * 486664 = -486660 := by
  have h : mulp dCoeff (Fe.ofNat 486664) = negp (Fe.ofNat 486660) := by decide +kernel
  simpa [toZ_dCoeff] using congrArg toZ h

/-- −(A_M + 2)·u/(u² + A_M·u + 1), the square of the Edwards x, has a root where u³ + A_M·u² + u has one, because
−(A_M + 2) has one. -/
theorem hasRoot_edwards_x {u : Fe} (h : HasRoot (montRhs u)) :
    HasRoot (divp (mulp (negp (Fe.ofNat (Config.montA + 2))) u) (montQuadratic u)) := by
  have : Fact Config.p.Prime := ⟨p_prime⟩
  obtain ⟨w, hw⟩ := h
  have hw' : toZ w * toZ w = toZ u * toZ (montQuadratic u) := by rw [← toZ_mulp, hw, toZ_montRhs]
  obtain ⟨c, hc⟩ : HasRoot (negp (Fe.ofNat (Config.montA + 2))) :=
    (isSquareIsHavingARoot _).1 (by decide +kernel)
  have hq := montQuadratic_ne_zero u
  refine ⟨divp (mulp c w) (montQuadratic u), toZ_injective ?_⟩
  have hroot := toZ_divp_mul (mulp c w) hq
  have hratio := toZ_divp_mul (mulp (negp (Fe.ofNat (Config.montA + 2))) u) hq
  rw [← hc] at hratio ⊢
  rw [toZ_mulp] at hroot ⊢
  rw [toZ_mulp, toZ_mulp] at hratio
  rw [Ne, ← toZ_eq_zero_iff] at hq
  apply mul_right_cancel₀ (mul_ne_zero hq hq)
  linear_combination (toZ (divp (mulp c w) (montQuadratic u)) * toZ (montQuadratic u) + toZ c * toZ w) * hroot +
    toZ c * toZ c * hw' - toZ (montQuadratic u) * hratio

/-- Whatever the conversion returns is on E (44_hash_to_point R251). -/
theorem onE_m2e (u : Fe) (sign : Bool) : OnE (m2e u sign).1 := by
  have : Fact Config.p.Prime := ⟨p_prime⟩
  simp only [m2e]
  split
  case isFalse => exact onE_neutral
  case isTrue hsq =>
    have hroot : HasRoot (montRhs u) := (isSquareIsHavingARoot _).1 hsq
    have hu := addp_one_ne_zero_of_hasRoot hroot
    have hq := montQuadratic_ne_zero u
    have hy := toZ_divp_mul (subp u feOne) hu
    obtain ⟨_, hx⟩ := sqrtRatio_of_hasRoot hq (hasRoot_edwards_x hroot)
    have hA : toZ (Fe.ofNat (Config.montA + 2)) = 486664 := toZ_ofNat 486664
    refine (onCurve_iff _ _).2 ?_
    simp only [toZ_withParity_mul_self]
    rw [toZ_mulp, toZ_negp, hA] at hx
    rw [toZ_addp, toZ_subp, toZ_feOne] at hy
    rw [Ne, ← toZ_eq_zero_iff] at hq hu
    rw [toZ_addp, toZ_feOne] at hu
    have hquad := toZ_montQuadratic u
    generalize toZ (sqrtRatio _ _).1 = x at hx ⊢
    generalize toZ (divp _ _) = y at hy ⊢
    apply mul_right_cancel₀ (mul_ne_zero hq (mul_ne_zero hu hu))
    linear_combination
      (-((toZ u + 1) ^ 2) - (Config.curveD : ZMod Config.p) * (y * (toZ u + 1)) ^ 2) * hx +
      (toZ (montQuadratic u) + 486664 * (Config.curveD : ZMod Config.p) * toZ u) * (y * (toZ u + 1) + (toZ u - 1)) * hy -
      4 * toZ u * hquad + toZ u * (toZ u - 1) ^ 2 * curveD_mul_montA_add_two

end Sys2Proof.Machine

/-! What a command can do, said once: the state a command completes with arises from the state before by writes to the
register files that 10_state R24 gives it and by slot stores, and the pc moves. Every statement about all 58 commands
follows from this by induction on those writes. -/

namespace Sys2Proof.Machine

/-- The commands that write field registers (10_state R24). -/
def writesField : Instr → Bool
  | .feMov _ _ | .feLdi _ _ | .feLd _ _ | .feAdd _ _ _ | .feSub _ _ _ | .feNeg _ _ | .feMul _ _ _ | .feSq _ _
  | .feSq2 _ _ | .feInv _ _ | .fePow22523 _ _ | .feSqrtr _ _ _ _ | .feCmov _ _ _ | .feCswap _ _ _ | .ptStaff _ _ _
  | .h2pEll2 _ _ | .clrall => true
  | _ => false

/-- The commands that write scalar registers (10_state R24). -/
def writesScalar : Instr → Bool
  | .scMov _ _ | .scLdi _ _ | .scLd _ _ | .scReduce _ _ _ | .scMuladd _ _ _ _ | .scClamp _ _ | .scCmov _ _ _
  | .clrall => true
  | _ => false

/-- The commands that write point registers (10_state R24). -/
def writesPoint : Instr → Bool
  | .ptMov _ _ | .ptId _ | .ptBase _ | .ptAdd _ _ _ | .ptDbl _ _ | .ptNeg _ _ | .ptMul8 _ _ | .ptCmov _ _ _
  | .ptSmulb _ _ | .ptSmul _ _ _ | .ptDsmul _ _ _ _ | .ptLdaff _ _ _ _ | .ptLdproj _ _ _ _ _ | .ptLdext _ _ _ _ _ _
  | .ptDec _ _ _ | .h2pM2e _ _ _ _ | .h2p _ _ _ | .clrall => true
  | _ => false

/-- The commands that write condition registers (10_state R24). -/
def writesCond : Instr → Bool
  | .cset _ _ | .ccpy _ _ | .cnot _ _ | .cand _ _ _ | .cor _ _ _ | .cxor _ _ _ | .cLd _ | .feSqrtr _ _ _ _
  | .feIsneg _ _ | .feIszero _ _ | .scIscanon _ _ | .ptIsid _ _ | .ptDec _ _ _ | .ptLdaff _ _ _ _
  | .ptLdproj _ _ _ _ _ | .ptLdext _ _ _ _ _ _ | .h2pM2e _ _ _ _ | .clrall => true
  | _ => false

/-- The states that the writes of a command i make of the state s before it. -/
inductive CommandWrites (i : Instr) (s : State) : State → Prop where
  | start : CommandWrites i s s
  | field {u : State} (d : FReg) (v : Fe) : CommandWrites i s u → writesField i = true → CommandWrites i s (u.setF d v)
  | scalar {u : State} (d : SReg) (v : Scalar) : CommandWrites i s u → writesScalar i = true →
      CommandWrites i s (u.setS d v)
  | point {u : State} (d : PReg) (P : Point) : CommandWrites i s u → writesPoint i = true → (s.PointsOnE → OnE P) →
      CommandWrites i s (u.setP d P)
  | cond {u : State} (k : CReg) (b : Bool) : CommandWrites i s u → writesCond i = true → CommandWrites i s (u.setC k b)
  | conds {u : State} (c : Vector Bool 16) : CommandWrites i s u → writesCond i = true →
      CommandWrites i s (u.setConds c)
  | clear {u : State} : CommandWrites i s u → writesField i = true → writesScalar i = true → writesPoint i = true →
      writesCond i = true → CommandWrites i s u.clearRegs
  | store {u : State} (n : Slot) (v : Nat) : CommandWrites i s u → CommandWrites i s (u.writeSlot n v)

namespace CommandWrites

variable {i : Instr} {s u v : State}

/-- A select writes what the taken side writes. -/
theorem ite {c : Prop} [Decidable c] (hu : CommandWrites i s u) (hv : CommandWrites i s v) :
    CommandWrites i s (if c then u else v) := by
  split
  · exact hu
  · exact hv

/-- A point and its success bit, written together. -/
theorem pointCond (d : PReg) (k : CReg) (P : Point) (b : Bool) (hp : writesPoint i = true) (hc : writesCond i = true)
    (hP : OnE P) : CommandWrites i s ((s.setP d P).setC k b) :=
  .cond k b (.point d P .start hp fun _ => hP) hc

end CommandWrites

/-- Every command but HALT retires, with the writes that its meaning names. -/
theorem exec_retires (i : Instr) (s : State) (hi : i ≠ .halt) : ∃ u, CommandWrites i s u ∧ exec i s = retire u := by
  cases i with
  | halt => exact absurd rfl hi
  | nop => exact ⟨s, .start, rfl⟩
  | clrall => exact ⟨_, .clear .start rfl rfl rfl rfl, rfl⟩
  | cset | ccpy | cnot | cand | cor | cxor | feIsneg | feIszero | scIscanon | ptIsid =>
    exact ⟨_, .cond _ _ .start rfl, rfl⟩
  | cLd slot => exact ⟨_, .conds _ .start rfl, rfl⟩
  | feMov | feLdi | feAdd | feSub | feNeg | feMul | feSq | feSq2 | feInv | fePow22523 | feLd | h2pEll2 =>
    exact ⟨_, .field _ _ .start rfl, rfl⟩
  | feSqrtr => exact ⟨_, .cond _ _ (.field _ _ .start rfl) rfl, rfl⟩
  | feCmov => exact ⟨_, .ite (.field _ _ .start rfl) .start, rfl⟩
  | feCswap => exact ⟨_, .ite (.field _ _ (.field _ _ .start rfl) rfl) .start, rfl⟩
  | ptStaff => exact ⟨_, .field _ _ (.field _ _ .start rfl) rfl, rfl⟩
  | scMov | scLdi | scReduce | scMuladd | scClamp | scLd => exact ⟨_, .scalar _ _ .start rfl, rfl⟩
  | scCmov => exact ⟨_, .ite (.scalar _ _ .start rfl) .start, rfl⟩
  | feSt | scSt | ptEnc | cSt => exact ⟨_, .store _ _ .start, rfl⟩
  | ptMov d a => exact ⟨_, .point d _ .start rfl fun h => h a, rfl⟩
  | ptId d => exact ⟨_, .point d _ .start rfl fun _ => onE_neutral, rfl⟩
  | ptBase d => exact ⟨_, .point d _ .start rfl fun _ => onE_basePoint, rfl⟩
  | ptAdd d a b => exact ⟨_, .point d _ .start rfl fun h => onE_pointAdd (h a) (h b), rfl⟩
  | ptDbl d a => exact ⟨_, .point d _ .start rfl fun h => onE_pointAdd (h a) (h a), rfl⟩
  | ptNeg d a => exact ⟨_, .point d _ .start rfl fun h => onE_pointNeg (h a), rfl⟩
  | ptMul8 d a => exact ⟨_, .point d _ .start rfl fun h => onE_pointMul (h a) 8, rfl⟩
  | ptCmov d a k => exact ⟨_, .ite (.point d _ .start rfl fun h => h a) .start, rfl⟩
  | ptSmulb d b => exact ⟨_, .point d _ .start rfl fun _ => onE_pointMul onE_basePoint _, rfl⟩
  | ptSmul d a b => exact ⟨_, .point d _ .start rfl fun h => onE_pointMul (h a) _, rfl⟩
  | ptDsmul d a b c =>
    exact ⟨_, .point d _ .start rfl fun h => onE_pointAdd (onE_pointMul (h a) _) (onE_pointMul onE_basePoint _), rfl⟩
  | h2p d a b => exact ⟨_, .point d _ .start rfl fun _ => onE_pointMul (onE_m2e _ _) 8, rfl⟩
  | ptDec d k slot => exact ⟨_, .pointCond d k _ _ rfl rfl (onE_decodePoint _), rfl⟩
  | ptLdaff d k a b => exact ⟨_, .pointCond d k _ _ rfl rfl (onE_loadAffine _ _), rfl⟩
  | ptLdproj d k a b c => exact ⟨_, .pointCond d k _ _ rfl rfl (onE_loadProjective _ _ _), rfl⟩
  | ptLdext d k a b c e => exact ⟨_, .pointCond d k _ _ rfl rfl (onE_loadExtended _ _ _ _), rfl⟩
  | h2pM2e d k a b => exact ⟨_, .pointCond d k _ _ rfl rfl (onE_m2e _ _), rfl⟩

theorem exec_halt (s : State) : exec .halt s = .next s.finishRun := rfl

/-- Everything a command can do: HALT ends the run, every other command makes its writes and moves the pc. -/
theorem exec_next {i : Instr} {s t : State} (h : exec i s = .next t) :
    (i = .halt ∧ t = s.finishRun) ∨ ∃ u, CommandWrites i s u ∧ t = u.advance := by
  by_cases hi : i = .halt
  · subst hi
    rw [exec_halt] at h
    injection h with h
    exact .inl ⟨rfl, h.symm⟩
  · obtain ⟨u, hu, he⟩ := exec_retires i s hi
    exact .inr ⟨u, hu, retire_next.1 (he ▸ h)⟩

/-- No command stops the machine. -/
theorem exec_answers_next (i : Instr) (s : State) : ∃ t, exec i s = .next t := by
  by_cases hi : i = .halt
  · exact ⟨s.finishRun, by rw [hi, exec_halt]⟩
  · obtain ⟨u, _, he⟩ := exec_retires i s hi
    exact ⟨u.advance, by rw [he, retire_eq]⟩

namespace CommandWrites

variable {i : Instr} {s u : State}

theorem pc_eq (h : CommandWrites i s u) : u.pc = s.pc := by
  induction h with
  | start => rfl
  | clear _ _ _ _ _ ih | field _ _ _ _ ih | scalar _ _ _ _ ih | point _ _ _ _ _ ih | cond _ _ _ _ ih
  | conds _ _ _ ih => exact ih
  | store n v _ ih => rw [State.writeSlot_pc, ih]

theorem busy_eq (h : CommandWrites i s u) : u.busy = s.busy := by
  induction h with
  | start => rfl
  | clear _ _ _ _ _ ih | field _ _ _ _ ih | scalar _ _ _ _ ih | point _ _ _ _ _ ih | cond _ _ _ _ ih
  | conds _ _ _ ih => exact ih
  | store n v _ ih => rw [State.writeSlot_busy, ih]

theorem sameF (h : CommandWrites i s u) (hi : writesField i = false) : SameF s u [] := by
  intro r _
  induction h with
  | start => rfl
  | field _ _ _ hw | clear _ hw => simp [hi] at hw
  | scalar _ _ _ _ ih | point _ _ _ _ _ ih | cond _ _ _ _ ih | conds _ _ _ ih => exact ih
  | store n v _ ih => rw [State.getF_writeSlot, ih]

theorem sameS (h : CommandWrites i s u) (hi : writesScalar i = false) : SameS s u [] := by
  intro r _
  induction h with
  | start => rfl
  | scalar _ _ _ hw | clear _ _ hw => simp [hi] at hw
  | field _ _ _ _ ih | point _ _ _ _ _ ih | cond _ _ _ _ ih | conds _ _ _ ih => exact ih
  | store n v _ ih => rw [State.getS_writeSlot, ih]

theorem sameP (h : CommandWrites i s u) (hi : writesPoint i = false) : SameP s u [] := by
  intro r _
  induction h with
  | start => rfl
  | point _ _ _ hw | clear _ _ _ hw => simp [hi] at hw
  | field _ _ _ _ ih | scalar _ _ _ _ ih | cond _ _ _ _ ih | conds _ _ _ ih => exact ih
  | store n v _ ih => rw [State.getP_writeSlot, ih]

theorem sameC (h : CommandWrites i s u) (hi : writesCond i = false) : SameC s u [] := by
  intro r _
  induction h with
  | start => rfl
  | cond _ _ _ hw | conds _ _ hw | clear _ _ _ _ hw => simp [hi] at hw
  | field _ _ _ _ ih | scalar _ _ _ _ ih | point _ _ _ _ _ ih => exact ih
  | store n v _ ih => rw [State.getC_writeSlot, ih]

/-- A command's writes keep every point register on E. -/
theorem pointsOnE (h : CommandWrites i s u) (hs : s.PointsOnE) : u.PointsOnE := by
  induction h with
  | start => exact hs
  | point d P _ _ hP ih =>
    intro r
    rw [State.getP_setP]
    split
    · exact hP hs
    · exact ih r
  | clear =>
    intro r
    rw [State.getP_clearRegs]
    exact onE_neutral
  | field _ _ _ _ ih | scalar _ _ _ _ ih | cond _ _ _ _ ih | conds _ _ _ ih => exact ih
  | store n v _ ih =>
    intro r
    rw [State.getP_writeSlot]
    exact ih r

end CommandWrites

/-- A claim made of every command but some holds if it holds of the others. -/
theorem cond_true_of_imp {w : Bool} {A : Prop} (h : w = false → A) : cond w True A := by
  cases w with
  | true => trivial
  | false => exact h rfl

/-- Settles O16: HALT writes no register, and every other command only what `exec_retires` says. -/
theorem commandsWriteOnlyTheirFiles : Obligations.CommandsWriteOnlyTheirFiles := by
  intro i s t h
  obtain ⟨hF, hS, hP, hC⟩ : (writesField i = false → SameF s t []) ∧ (writesScalar i = false → SameS s t []) ∧
      (writesPoint i = false → SameP s t []) ∧ (writesCond i = false → SameC s t []) := by
    rcases exec_next h with ⟨_, rfl⟩ | ⟨u, hu, rfl⟩
    · exact ⟨fun _ _ _ => rfl, fun _ _ _ => rfl, fun _ _ _ => rfl, fun _ _ _ => rfl⟩
    · exact ⟨hu.sameF, hu.sameS, hu.sameP, hu.sameC⟩
  replace hF := cond_true_of_imp hF
  replace hS := cond_true_of_imp hS
  replace hP := cond_true_of_imp hP
  replace hC := cond_true_of_imp hC
  clear h
  cases i <;> exact ⟨hF, hS, hP, hC⟩

end Sys2Proof.Machine

/-! What a host access can do, said once: the state after it arises from the state before by the updates of the host
port, each made only where the port allows it (10_state R28 to R40, 20_memory R63 to R67). -/

namespace Sys2Proof.Machine

/-- The states that the host port's updates make of the state s before an access. -/
inductive HostEffect (s : State) : State → Prop where
  | start : HostEffect s s
  | herr {u : State} : HostEffect s u → HostEffect s u.setHerr
  | answer {u : State} (v : Word) : HostEffect s u → HostEffect s (u.answer v)
  | pcRead {u : State} : HostEffect s u → HostEffect s u.afterPcRead
  | imem {u : State} (o v : Nat) : HostEffect s u → o + 4 ≤ Config.imemBytes →
      HostEffect s (u.setImem (u.imem.writeLE o 4 v))
  | dmem {u : State} (o v : Nat) : HostEffect s u → o + 4 ≤ Config.dmemBytes →
      HostEffect s (u.setDmem (u.dmem.writeLE o 4 v))
  | ie {u : State} (b : Bool) : HostEffect s u → HostEffect s { u with ie := b }
  | status {u : State} (w : Word) : HostEffect s u → HostEffect s (u.writeStatus w)
  | startPc {u : State} (w : Word) : HostEffect s u → HostEffect s (u.writeStartPc w)
  | startRun {u : State} : HostEffect s u → u.busy = false → HostEffect s u.startRun
  | abort {u : State} : HostEffect s u → u.busy = true → HostEffect s { u with abortReq := true }
  | zeroize {u : State} : HostEffect s u → u.busy = false → HostEffect s u.zeroize

namespace HostEffect

variable {s u : State}

theorem hostStart (h : HostEffect s u) : HostEffect s u.hostStart := by
  unfold State.hostStart
  split
  case isTrue => exact h.herr
  case isFalse hb => exact h.startRun (by simpa using hb)

theorem hostAbort (h : HostEffect s u) : HostEffect s u.hostAbort := by
  unfold State.hostAbort
  split
  case isTrue hb => exact h.abort hb
  case isFalse => exact h

theorem hostZeroize (h : HostEffect s u) : HostEffect s u.hostZeroize := by
  unfold State.hostZeroize
  split
  case isTrue => exact h.herr
  case isFalse hb => exact h.zeroize (by simpa using hb)

end HostEffect

/-! ### The accesses, by the register or memory they reach -/

theorem writeCtrl_effect (s : State) (w : Word) : HostEffect s (s.writeCtrl w) := by
  have hie : HostEffect s { s with ie := w.getLsbD 8 } := .ie _ .start
  rcases State.writeCtrl_cases s w with h | h | h | h | h <;> rw [h]
  · exact hie
  · exact hie.hostStart
  · exact hie.hostAbort
  · exact hie.hostZeroize
  · exact hie.herr

theorem writeRegister_effect (s : State) (o : Nat) (w : Word) : HostEffect s (s.writeRegister o w) := by
  unfold State.writeRegister
  split
  · exact writeCtrl_effect s w
  · split
    · exact .status w .start
    · split
      · exact .startPc w .start
      · exact .start

theorem hostRead_effect (s : State) (size o : Nat) : HostEffect s (s.hostRead size o) := by
  rcases State.hostRead_cases s size o with h | ⟨v, h⟩ | h <;> rw [h]
  · exact .answer _ (.herr .start)
  · exact .answer v .start
  · exact .answer _ (.pcRead .start)

theorem hostWrite_effect (s : State) (size o : Nat) (w : Word) : HostEffect s (s.hostWrite size o w) := by
  rcases State.hostWrite_cases s size o w with h | ⟨_, ha, ho, h⟩ | ⟨_, ha, hlo, hhi, h⟩ | h <;> rw [h]
  · exact .herr .start
  · exact .imem o _ .start (by simp only [Config.imemBytes]; omega)
  · exact .dmem _ _ .start (by simp only [Config.dmemBytes]; omega)
  · exact writeRegister_effect s o w

/-- Everything a host access can do. -/
theorem hostAccess_effect (s : State) (a : HostAccess) : HostEffect s (s.hostAccess a) := by
  cases a with
  | read size offset => exact hostRead_effect s size offset.toNat
  | write size offset value => exact hostWrite_effect s size offset.toNat value

/-! ### The registers after reset (10_state R38) -/

@[simp] theorem State.getF_powerOn (imem dmem : Memory) (i : FReg) :
    (State.powerOn imem dmem).getF i = Fe.ofNat 0 := by
  simp [State.powerOn, State.getF]

@[simp] theorem State.getS_powerOn (imem dmem : Memory) (i : SReg) : (State.powerOn imem dmem).getS i = 0#256 := by
  simp [State.powerOn, State.getS]

@[simp] theorem State.getC_powerOn (imem dmem : Memory) (i : CReg) : (State.powerOn imem dmem).getC i = false := by
  simp [State.powerOn, State.getC]

@[simp] theorem State.getP_powerOn (imem dmem : Memory) (i : PReg) : (State.powerOn imem dmem).getP i = neutral := by
  simp [State.powerOn, State.getP]

/-! ### Points on E (10_state R22) -/

/-- Point registers that hold O are on E, as after reset, CLRALL and ZEROIZE. -/
theorem State.pointsOnE_of_neutral {s : State} (h : ∀ i, s.getP i = neutral) : s.PointsOnE := by
  intro i
  rw [h i]
  exact onE_neutral

/-- No host access but ZEROIZE writes a point register. -/
theorem HostEffect.pointsOnE {s u : State} (h : HostEffect s u) (hs : s.PointsOnE) : u.PointsOnE := by
  induction h with
  | start => exact hs
  | zeroize => exact State.pointsOnE_of_neutral (State.getP_zeroize _)
  | @pcRead u _ ih =>
    unfold State.afterPcRead
    split <;> exact ih
  | herr _ ih | answer _ _ ih | imem _ _ _ _ ih | dmem _ _ _ _ ih | ie _ _ ih | status _ _ ih | startPc _ _ ih
  | startRun _ _ ih | abort _ _ ih => exact ih

theorem engineStep_pointsOnE {s t : State} (h : s.engineStep = .next t) (hs : s.PointsOnE) : t.PointsOnE := by
  rcases State.engineStep_next h with ⟨_, rfl⟩ | ⟨_, _, rfl⟩ | ⟨_, _, _, rfl⟩ |
    ⟨_, _, _, ⟨_, rfl⟩ | ⟨_, rfl⟩ | ⟨i, _, hi⟩⟩
  · exact hs
  · exact hs
  · exact hs
  · exact hs
  · exact hs
  · rcases exec_next hi with ⟨_, rfl⟩ | ⟨u, hu, rfl⟩
    · exact hs
    · exact hu.pointsOnE hs

/-- Settles O11: an engine step writes points of E (`CommandWrites.pointsOnE`), a host access and a reset write none or
O. -/
theorem stepKeepsPointsOnTheCurve : Obligations.StepKeepsPointsOnTheCurve := by
  intro s t hs h
  rcases step_next h with ⟨_, h⟩ | ⟨rest, _, h⟩ | ⟨a, rest, _, rfl⟩ | ⟨rest, _, rfl⟩
  · exact engineStep_pointsOnE h hs
  · exact engineStep_pointsOnE h hs
  · exact (hostAccess_effect _ a).pointsOnE hs
  · exact State.pointsOnE_of_neutral (State.getP_powerOn s.imem s.dmem)

/-! ### Legal states -/

theorem isCommandAddress_iff (pc : BitVec 13) : isCommandAddress pc = true ↔ pc.toNat % 4 = 0 ∧ pc.toNat < 4096 := by
  rw [isCommandAddress, Bool.and_eq_true, decide_eq_true_iff, decide_eq_true_iff]
  rfl

namespace State.Legal

variable {s : State}

theorem powerOn {imem dmem : Memory} (hi : imem.wf Config.imemBytes = true) (hd : dmem.wf Config.dmemBytes = true) :
    (State.powerOn imem dmem).Legal := by
  constructor <;> simp [State.powerOn, hi, hd]

theorem schedule (h : s.Legal) (rest : List Event) : ({ s with schedule := rest } : State).Legal := { h with }

/-! A register write, and the host's updates that touch neither the run, the pc nor the fault record. -/

theorem setF (h : s.Legal) (d : FReg) (v : Fe) : (s.setF d v).Legal := { h with }

theorem setS (h : s.Legal) (d : SReg) (v : Scalar) : (s.setS d v).Legal := { h with }

theorem setP (h : s.Legal) (d : PReg) (P : Point) : (s.setP d P).Legal := { h with }

theorem setC (h : s.Legal) (k : CReg) (b : Bool) : (s.setC k b).Legal := { h with }

theorem setConds (h : s.Legal) (c : Vector Bool 16) : (s.setConds c).Legal := { h with }

theorem clearRegs (h : s.Legal) : s.clearRegs.Legal := { h with }

theorem setHerr (h : s.Legal) : s.setHerr.Legal := { h with }

theorem answer (h : s.Legal) (v : Word) : (s.answer v).Legal := { h with }

theorem afterPcRead (h : s.Legal) : s.afterPcRead.Legal := by
  unfold State.afterPcRead
  split
  · exact { h with }
  · exact h

theorem setIe (h : s.Legal) (b : Bool) : ({ s with ie := b } : State).Legal := { h with }

theorem writeStartPc (h : s.Legal) (w : Word) : (s.writeStartPc w).Legal := { h with }

theorem setImem (h : s.Legal) {m : Memory} (hm : m.wf Config.imemBytes = true) : (s.setImem m).Legal :=
  { h with imem := hm }

theorem setDmem (h : s.Legal) {m : Memory} (hm : m.wf Config.dmemBytes = true) : (s.setDmem m).Legal :=
  { h with dmem := hm }

theorem writeSlot (h : s.Legal) (n : Slot) (v : Nat) : (s.writeSlot n v).Legal :=
  h.setDmem (Memory.wf_writeLE h.dmem (slotAddress_inside n) v)

theorem zeroize (h : s.Legal) : s.zeroize.Legal :=
  { h.clearRegs with imem := Memory.wf_nil _, dmem := Memory.wf_nil _ }

/-! The updates of the run, the pc and the fault record. -/

/-- Clearing DONE or FAULT by a write leaves the fault record as it is (60_exceptions R281). -/
theorem writeStatus (h : s.Legal) (w : Word) : (s.writeStatus w).Legal :=
  { h with
    notBoth := by
      intro ⟨hd, hf⟩
      simp only [State.writeStatus_done, State.writeStatus_fault, Bool.and_eq_true] at hd hf
      exact h.notBoth ⟨hd.1, hf.1⟩
    runningClear := by
      intro hb
      obtain ⟨hd, hf⟩ := h.runningClear hb
      simp [hd, hf]
    recordClear := by
      rintro (hb | hd)
      · exact h.recordClear (.inl hb)
      · simp only [State.writeStatus_done, Bool.and_eq_true] at hd
        exact h.recordClear (.inr hd.1)
    faultRecorded := by
      intro hf
      simp only [State.writeStatus_fault, Bool.and_eq_true] at hf
      exact h.faultRecorded hf.1 }

theorem requestAbort (h : s.Legal) (hb : s.busy = true) : ({ s with abortReq := true } : State).Legal :=
  { h with abortInRun := fun _ => hb }

theorem consumeAbort (h : s.Legal) : s.consumeAbort.Legal :=
  { h with abortInRun := fun ha => nomatch ha }

/-- START makes pc a command address and clears the record (10_state R40). -/
theorem startRun (h : s.Legal) : s.startRun.Legal := by
  have hpc : s.startRun.pc.toNat = 4 * s.startPc.toNat := State.startAddress_toNat s
  have hlt := s.startPc.isLt
  exact
    { imem := h.imem, dmem := h.dmem
      pcAligned := by omega
      pcRange := by omega
      notBoth := by simp
      runningClear := by simp
      abortInRun := by simp
      recordClear := by simp
      faultRecorded := by simp
      emptyRecord := by simp
      pcAtFault := by simp
      noWord := by simp
      rangePc := by simp
      opcodeWord := by simp
      fieldWord := by simp }

/-- The pc of a command moves to a multiple of 4 of at most 4096 (10_state R25). -/
theorem advance (h : s.Legal) (hb : s.busy = true) (hpc : isCommandAddress s.pc = true) : s.advance.Legal := by
  obtain ⟨hal, hlt⟩ := (isCommandAddress_iff _).1 hpc
  have hnext : s.advance.pc.toNat = s.pc.toNat + 4 := by
    rw [State.advance_pc, BitVec.toNat_add]
    exact Nat.mod_eq_of_lt (by change s.pc.toNat + 4 < 8192; omega)
  have hnone : s.faultCause = .none := h.recordClear (.inl hb)
  exact
    { h with
      pcAligned := by omega
      pcRange := by omega
      pcAtFault := fun hc => absurd hnone hc }

/-- HALT ends a run that no abort was asked of (40_control R124). -/
theorem finishRun (h : s.Legal) (hb : s.busy = true) (ha : s.abortReq = false) : s.finishRun.Legal := by
  obtain ⟨_, hf⟩ := h.runningClear hb
  have hnone : s.faultCause = .none := h.recordClear (.inl hb)
  exact
    { h with
      notBoth := by simp [hf]
      runningClear := by simp
      abortInRun := by simp [ha]
      recordClear := fun _ => hnone }

/-- Taking a fault records what 60_exceptions R271 to R274 say of its cause. -/
theorem raiseFault (h : s.Legal) (hb : s.busy = true) (ha : s.abortReq = false) {c : FaultCause} {w : Word}
    (hc : c ≠ .none) (hrange : c = .fetchRange → s.pc = 4096#13)
    (hop : c = .illegalOpcode → decode w = .illegalOpcode) (hfield : c = .illegalField → decode w = .illegalField) :
    (s.raiseFault c w).Legal := by
  obtain ⟨hd, _⟩ := h.runningClear hb
  exact
    { h with
      notBoth := by simp [hd]
      runningClear := by simp
      abortInRun := by simp [ha]
      recordClear := by simp [hd]
      faultRecorded := fun _ => hc
      emptyRecord := fun hn => absurd hn hc
      pcAtFault := fun _ => rfl
      noWord := by rintro (rfl | rfl) <;> rfl
      rangePc := hrange
      opcodeWord := by rintro rfl; exact hop rfl
      fieldWord := by rintro rfl; exact hfield rfl }

end State.Legal

theorem CommandWrites.legal {i : Instr} {s u : State} (h : CommandWrites i s u) (hs : s.Legal) : u.Legal := by
  induction h with
  | start => exact hs
  | field d v _ _ ih => exact ih.setF d v
  | scalar d v _ _ ih => exact ih.setS d v
  | point d P _ _ _ ih => exact ih.setP d P
  | cond k b _ _ ih => exact ih.setC k b
  | conds c _ _ ih => exact ih.setConds c
  | clear _ _ _ _ _ ih => exact ih.clearRegs
  | store n v _ ih => exact ih.writeSlot n v

theorem HostEffect.legal {s u : State} (h : HostEffect s u) (hs : s.Legal) : u.Legal := by
  induction h with
  | start => exact hs
  | herr _ ih => exact ih.setHerr
  | answer v _ ih => exact ih.answer v
  | pcRead _ ih => exact ih.afterPcRead
  | imem o v _ ho ih => exact ih.setImem (Memory.wf_writeLE ih.imem ho v)
  | dmem o v _ ho ih => exact ih.setDmem (Memory.wf_writeLE ih.dmem ho v)
  | ie b _ ih => exact ih.setIe b
  | status w _ ih => exact ih.writeStatus w
  | startPc w _ ih => exact ih.writeStartPc w
  | startRun _ _ ih => exact ih.startRun
  | abort _ hb ih => exact ih.requestAbort hb
  | zeroize _ _ ih => exact ih.zeroize

/-- A command run at a command address keeps the machine legal. -/
theorem exec_legal {i : Instr} {s t : State} (h : exec i s = .next t) (hs : s.Legal) (hb : s.busy = true)
    (ha : s.abortReq = false) (hpc : isCommandAddress s.pc = true) : t.Legal := by
  rcases exec_next h with ⟨_, rfl⟩ | ⟨u, hu, rfl⟩
  · exact hs.finishRun hb ha
  · exact (hu.legal hs).advance (hu.busy_eq.trans hb) (hu.pc_eq ▸ hpc)

theorem engineStep_legal {s t : State} (h : s.engineStep = .next t) (hs : s.Legal) : t.Legal := by
  rcases State.engineStep_next h with ⟨_, rfl⟩ | ⟨hb, _, rfl⟩ | ⟨hb, ha, hpc, rfl⟩ |
    ⟨hb, ha, hpc, ⟨hd, rfl⟩ | ⟨hd, rfl⟩ | ⟨i, _, hi⟩⟩
  · exact hs
  · exact hs.consumeAbort.raiseFault hb rfl (by simp) (by simp) (by simp) (by simp)
  · exact hs.raiseFault hb ha (by simp) (fun _ => hpc) (by simp) (by simp)
  · exact hs.raiseFault hb ha (by simp) (by simp) (fun _ => hd) (by simp)
  · exact hs.raiseFault hb ha (by simp) (by simp) (by simp) (fun _ => hd)
  · exact exec_legal hi hs hb ha hpc

/-- Settles O10: an engine step, a host access and a reset each keep the machine legal. -/
theorem stepKeepsTheMachineLegal : Obligations.StepKeepsTheMachineLegal := by
  intro s t hs h
  rcases step_next h with ⟨_, h⟩ | ⟨rest, _, h⟩ | ⟨a, rest, _, rfl⟩ | ⟨rest, _, rfl⟩
  · exact engineStep_legal h hs
  · exact engineStep_legal h (hs.schedule rest)
  · exact (hostAccess_effect _ a).legal (hs.schedule rest)
  · exact { State.Legal.powerOn hs.imem hs.dmem with }

/-- The engine's step answers a next state wherever the pc is one that 10_state R25 allows. -/
theorem engineStep_answers_next {s : State} (hal : s.pc.toNat % 4 = 0) (hle : s.pc.toNat ≤ 4096) :
    ∃ t, s.engineStep = .next t := by
  unfold State.engineStep
  split
  case isFalse => exact ⟨_, rfl⟩
  case isTrue =>
    split
    case isTrue => exact ⟨_, rfl⟩
    case isFalse =>
      split
      case isTrue => exact ⟨_, rfl⟩
      case isFalse hpc =>
        have haddr : isCommandAddress s.pc = true := by
          have hne : s.pc.toNat ≠ 4096 := fun h => hpc (BitVec.eq_of_toNat_eq h)
          exact (isCommandAddress_iff _).2 ⟨hal, by omega⟩
        rw [if_pos haddr]
        unfold State.perform
        split
        · exact exec_answers_next _ s
        · exact ⟨_, rfl⟩
        · exact ⟨_, rfl⟩

/-- Settles O12: only the engine's step can stop, and not at a legal pc. -/
theorem legalStatesAlwaysStep : Obligations.LegalStatesAlwaysStep := by
  intro s hs
  unfold step State.agentStep
  split
  · exact engineStep_answers_next hs.pcAligned hs.pcRange
  · exact engineStep_answers_next hs.pcAligned hs.pcRange
  · exact ⟨_, rfl⟩
  · exact ⟨_, rfl⟩

end Sys2Proof.Machine

/-! The state after reset, the registers of the host port and the interrupt output (10_state R27 to R40). -/

namespace Sys2Proof.Machine

/-! ### Reset (10_state R38) -/

/-- Settles O13: State.reset is the power-on state of two memories that list nothing. -/
theorem resetStateIsLegal : Obligations.ResetStateIsLegal := by
  have hpts (imem dmem : Memory) : (State.powerOn imem dmem).PointsOnE :=
    State.pointsOnE_of_neutral (State.getP_powerOn imem dmem)
  refine ⟨fun imem dmem hi hd => ⟨.powerOn hi hd, hpts imem dmem⟩, ?_, hpts [] []⟩
  exact .powerOn (Memory.wf_nil _) (Memory.wf_nil _)

/-- An idle engine's step changes nothing, so that it never starts by itself (70_reset R302). -/
theorem State.engineStep_idle {s : State} (h : s.busy = false) : s.engineStep = .next s := by
  simp [State.engineStep, h]

/-- Settles O14, field by field. -/
theorem resetLeavesTheStatedValues : Obligations.ResetLeavesTheStatedValues := by
  refine ⟨fun imem dmem => ?_, [], [], rfl⟩
  intro s
  have hF (i) : (s.getF i).val = 0 := by simp [s]
  have hS (i) : (s.getS i).toNat = 0 := by simp [s]
  have hP (i) : (s.getP i).x.val = 0 ∧ (s.getP i).y.val = 1 := by
    rw [State.getP_powerOn]
    decide +kernel
  have hC (i) : s.getC i = false := State.getC_powerOn imem dmem i
  have hidle (t) (h : s.engineStep = .next t) : t.busy = false := by
    rw [State.engineStep_idle rfl] at h
    injection h with h
    exact h ▸ rfl
  have hctrl : s.ctrlWord = 0#32 := by
    rw [State.ctrlWord, show s.ie = false from rfl]
    decide
  have hstatus : s.statusWord = 0#32 := by
    rw [State.statusWord, show s.busy = false from rfl, show s.done = false from rfl, show s.fault = false from rfl,
      show s.herr = false from rfl]
    decide
  have hstart : s.startAddress = 0#13 := by
    rw [State.startAddress, show s.startPc = 0#10 from rfl]
    decide
  exact ⟨hF, hS, hP, hC, rfl, rfl, hctrl, hstatus, hstart, rfl, rfl, rfl, rfl, rfl, rfl, rfl, hidle⟩

/-! ### The interrupt output (10_state R37) -/

/-- Settles O60: the level, bit by bit. -/
theorem interruptLevel : Obligations.InterruptLevel := by
  intro s
  rw [State.irq, Bool.and_eq_true, Bool.or_eq_true]

/-! ### The host's next access, and the engine's next step -/

theorem step_host {s : State} {a : HostAccess} {rest : List Event} (h : s.schedule = .host a :: rest) :
    step s = .next ({ s with schedule := rest }.hostAccess a) := by
  rw [step, State.agentStep, h]

/-- The engine moves on an empty schedule and on an event of its own, which the step removes (log entry 2). -/
theorem step_engine {s : State} {rest : List Event} (h : s.schedule = [] ∧ rest = [] ∨ s.schedule = .engine :: rest) :
    step s = { s with schedule := rest }.engineStep := by
  rcases h with ⟨hs, rfl⟩ | hs
  · rw [step, State.agentStep, hs]
    exact congrArg State.engineStep (by rw [← hs])
  · rw [step, State.agentStep, hs]

/-- A running engine takes a pending abort before anything else (60_exceptions R277). -/
theorem State.engineStep_abort {s : State} (hb : s.busy = true) (ha : s.abortReq = true) :
    s.engineStep = .next (s.consumeAbort.raiseFault .aborted 0#32) := by
  rw [State.engineStep, if_pos hb, if_pos ha]

/-- An aligned word write at a register's offset is a register write (10_state R27). -/
theorem State.hostWrite_register (s : State) {o : Nat} (w : Word) (hal : o % 4 = 0) (hlo : 0x3000 ≤ o)
    (hhi : o < 0x3020) : s.hostWrite 4 o w = s.writeRegister o w := by
  have hwf : wellFormedAccess 4 o = true := by simp [wellFormedAccess, hal]
  rw [State.hostWrite, if_pos hwf, if_neg (by omega), if_neg (by omega), if_pos hhi]

/-- An aligned word read at a register's offset, PC's apart, answers the register's word (10_state R27). -/
theorem State.hostRead_register (s : State) {o : Nat} (hal : o % 4 = 0) (hlo : 0x3000 ≤ o) (hhi : o < 0x3020)
    (hpc : o ≠ 0x300C) : s.hostRead 4 o = s.answer (s.registerWord o) := by
  have hwf : wellFormedAccess 4 o = true := by simp [wellFormedAccess, hal]
  rw [State.hostRead, if_pos hwf, if_neg (by omega), if_neg (by omega), if_neg hpc, if_pos hhi]

/-- A read of PC may use up a draw (10_state R31). -/
theorem State.hostRead_pc (s : State) : s.hostRead 4 0x300C = s.afterPcRead.answer s.pcWord := rfl

section RegisterAccess

variable {s : State} {rest : List Event} {o : BitVec 14}

theorem step_writeRegister {w : Word} (h : s.schedule = .host (.write 4 o w) :: rest) (hal : o.toNat % 4 = 0)
    (hlo : 0x3000 ≤ o.toNat) (hhi : o.toNat < 0x3020) :
    step s = .next ({ s with schedule := rest }.writeRegister o.toNat w) := by
  rw [step_host h, State.hostAccess, State.hostWrite_register _ w hal hlo hhi]

theorem step_readRegister (h : s.schedule = .host (.read 4 o) :: rest) (hal : o.toNat % 4 = 0)
    (hlo : 0x3000 ≤ o.toNat) (hhi : o.toNat < 0x3020) (hpc : o.toNat ≠ 0x300C) :
    step s = .next ({ s with schedule := rest }.answer ({ s with schedule := rest }.registerWord o.toNat)) := by
  rw [step_host h, State.hostAccess, State.hostRead_register _ hal hlo hhi hpc]

end RegisterAccess

/-! ### CTRL (10_state R28, R40, 60_exceptions R276, 70_reset R303) -/

/-- The number of actions that a write of w to CTRL asks for. -/
def actionCount (w : Word) : Nat := (w.getLsbD 0).toNat + (w.getLsbD 1).toNat + (w.getLsbD 2).toNat

/-- The state once a write of w to CTRL has set IE, before its action. -/
def State.withIe (s : State) (w : Word) : State := { s with ie := w.getLsbD 8 }

/-- What a write to CTRL does, by the number of actions it asks for. -/
theorem State.writeCtrl_eq (s : State) (w : Word) : s.writeCtrl w =
    if actionCount w = 0 then s.withIe w
    else if 2 ≤ actionCount w then (s.withIe w).setHerr
    else if w.getLsbD 0 = true then (s.withIe w).hostStart
    else if w.getLsbD 1 = true then (s.withIe w).hostAbort
    else (s.withIe w).hostZeroize := by
  unfold State.writeCtrl actionCount State.withIe
  generalize w.getLsbD 0 = b0
  generalize w.getLsbD 1 = b1
  generalize w.getLsbD 2 = b2
  cases b0 <;> cases b1 <;> cases b2 <;> rfl

section ControlWrite

variable {s : State} {w : Word}

theorem State.writeCtrl_no_action (hn : actionCount w = 0) : s.writeCtrl w = s.withIe w := by
  rw [State.writeCtrl_eq, if_pos hn]

theorem State.writeCtrl_many_actions (hn : 2 ≤ actionCount w) : s.writeCtrl w = (s.withIe w).setHerr := by
  rw [State.writeCtrl_eq, if_neg (by omega), if_pos hn]

theorem State.writeCtrl_start (hn : actionCount w = 1) (h0 : w.getLsbD 0 = true) :
    s.writeCtrl w = (s.withIe w).hostStart := by
  rw [State.writeCtrl_eq, if_neg (by omega), if_neg (by omega), if_pos h0]

theorem State.writeCtrl_abort (hn : actionCount w = 1) (h1 : w.getLsbD 1 = true) :
    s.writeCtrl w = (s.withIe w).hostAbort := by
  have hsum := hn
  rw [actionCount, h1, Bool.toNat_true] at hsum
  have h0 : w.getLsbD 0 = false := Bool.toNat_eq_zero.1 (by omega)
  rw [State.writeCtrl_eq, if_neg (by omega), if_neg (by omega), h0, if_neg Bool.false_ne_true, if_pos h1]

theorem State.writeCtrl_zeroize (hn : actionCount w = 1) (h2 : w.getLsbD 2 = true) :
    s.writeCtrl w = (s.withIe w).hostZeroize := by
  have hsum := hn
  rw [actionCount, h2, Bool.toNat_true] at hsum
  have h0 : w.getLsbD 0 = false := Bool.toNat_eq_zero.1 (by omega)
  have h1 : w.getLsbD 1 = false := Bool.toNat_eq_zero.1 (by omega)
  rw [State.writeCtrl_eq, if_neg (by omega), if_neg (by omega), h0, h1, if_neg Bool.false_ne_true,
    if_neg Bool.false_ne_true]

end ControlWrite

/-- CTRL reads as IE in bit 8 (10_state R28). -/
theorem State.ctrlWord_eq (s : State) : s.ctrlWord = if s.ie = true then 0x100#32 else 0#32 := by
  rw [State.ctrlWord]
  cases s.ie <;> rfl

/-- Settles O56: the clauses are the actions of `State.writeCtrl_eq`, each while busy and while idle. -/
theorem ctrlWriteActions : Obligations.CtrlWriteActions := by
  refine ⟨?_, ?_, ?_⟩
  · intro s rest w hs s1 n
    have after {u : State} (hu : State.writeCtrl { s with schedule := rest } w = u) : step s = .next u :=
      hu ▸ step_writeRegister hs (by decide) (by decide) (by decide)
    have idle (hb : s.busy = false) : ¬ s.busy = true := by simp [hb]
    refine ⟨fun hn => ?none, fun hn => ?many, fun hn h0 hb => ?startBusy, fun hn h0 hb => ?startIdle,
      fun hn h1 hb => ?abortBusy, fun hn h1 hb => ?abortIdle, fun hn h2 hb => ?zeroizeBusy,
      fun hn h2 hb => ?zeroizeIdle⟩
    case none => exact after (State.writeCtrl_no_action hn)
    case many => exact after (State.writeCtrl_many_actions hn)
    case startBusy => exact after ((State.writeCtrl_start hn h0).trans (if_pos hb))
    case startIdle =>
      exact ⟨_, after ((State.writeCtrl_start hn h0).trans (if_neg (idle hb))), State.startAddress_toNat _, rfl⟩
    case abortBusy => exact after ((State.writeCtrl_abort hn h1).trans (if_pos hb))
    case abortIdle => exact after ((State.writeCtrl_abort hn h1).trans (if_neg (idle hb)))
    case zeroizeBusy => exact after ((State.writeCtrl_zeroize hn h2).trans (if_pos hb))
    case zeroizeIdle =>
      have hzero : feZero.val = 0 := by decide +kernel
      exact ⟨_, after ((State.writeCtrl_zeroize hn h2).trans (if_neg (idle hb))),
        fun i => by rw [State.getF_zeroize, hzero], State.getS_zeroize _, State.getP_zeroize _,
        State.getC_zeroize _, fun _ => ⟨rfl, rfl⟩, rfl⟩
  · intro s rest hs
    have hread := step_readRegister hs (by decide) (by decide) (by decide) (by decide)
    rwa [show State.registerWord { s with schedule := rest } (0x3000#14).toNat = s.ctrlWord from rfl,
      State.ctrlWord_eq] at hread
  · intro s rest hs hb ha
    have hstep : step s = .next _ := (step_engine hs).trans (State.engineStep_abort hb ha)
    exact ⟨_, hstep, rfl, rfl, rfl, rfl, rfl, rfl, rfl,
      ⟨fun _ _ => rfl, fun _ _ => rfl, fun _ _ => rfl, fun _ _ => rfl⟩, fun _ => rfl⟩

/-! ### STATUS, START_PC and the read-only registers (10_state R29 to R33) -/

/-- START_PC reads as bits 11:2 of what was written, at their place and 0 elsewhere (10_state R30). -/
theorem startAddress_writeStartPc (s : State) (w : Word) :
    (s.writeStartPc w).startAddress.setWidth 32 = w &&& 0xFFC#32 := by
  have hmask : ∀ i < 32, (0xFFC#32).getLsbD i = decide (2 ≤ i ∧ i < 12) := by decide
  apply BitVec.eq_of_getLsbD_eq
  intro i hi
  rw [BitVec.getLsbD_and, hmask i hi, State.startAddress, State.writeStartPc_startPc, BitVec.getLsbD_setWidth,
    BitVec.getLsbD_append, BitVec.getLsbD_append, BitVec.getLsbD_extractLsb', BitVec.getLsbD_zero, BitVec.getLsbD_zero]
  by_cases hlow : i < 2
  · simp [hlow]
  · have hidx : 2 + (i - 2) = i := by omega
    by_cases hhigh : i < 12
    · have h10 : i - 2 < 10 := by omega
      have h2 : 2 ≤ i := by omega
      simp [hi, hlow, hhigh, h10, hidx, h2]
    · have h10 : ¬ i - 2 < 10 := by omega
      simp [hlow, hhigh, h10]

/-- A pc in a register word keeps its value. -/
theorem toNat_setWidth_pc (pc : BitVec 13) : (pc.setWidth 32).toNat = pc.toNat :=
  BitVec.toNat_setWidth_of_le (by decide)

/-- START_PC reads as a multiple of 4 of at most 4092 (10_state R30). -/
theorem startAddress_word_toNat (s : State) : (s.startAddress.setWidth 32).toNat = 4 * s.startPc.toNat := by
  rw [toNat_setWidth_pc, State.startAddress_toNat]

/-- PC, the fault record and ID ignore writes (10_state R27). -/
theorem State.writeRegister_readOnly (s : State) {o : Nat} (w : Word) (ho : 0x300C ≤ o) : s.writeRegister o w = s := by
  rw [State.writeRegister, if_neg (by omega), if_neg (by omega), if_neg (by omega)]

/-- Settles O57, register by register. -/
theorem statusStartPcAndReadOnlyWrites : Obligations.StatusStartPcAndReadOnlyWrites := by
  refine ⟨fun s rest w => ⟨fun hs => ?status, fun hs => ?startPc, fun o ho hs => ?readOnly⟩, ?reset⟩
  case status => exact step_writeRegister hs (by decide) (by decide) (by decide)
  case startPc =>
    let u := State.writeStartPc { s with schedule := rest } w
    have hreg : u.registerWord 0x3008 = u.startAddress.setWidth 32 := rfl
    have hval := startAddress_word_toNat u
    have hlt := u.startPc.isLt
    refine ⟨u, step_writeRegister hs (by decide) (by decide) (by decide), rfl, ?_, ?_, ?_⟩
    · exact hreg.trans (startAddress_writeStartPc _ w)
    · rw [hreg]
      omega
    · rw [hreg]
      omega
  case readOnly =>
    have hrange : ∀ o ∈ [0x300C#14, 0x3010#14, 0x3014#14, 0x3018#14, 0x301C#14],
        o.toNat % 4 = 0 ∧ 0x300C ≤ o.toNat ∧ o.toNat < 0x3020 := by simp
    obtain ⟨hal, hlo, hhi⟩ := hrange o ho
    rw [step_writeRegister hs hal (by omega) hhi, State.writeRegister_readOnly _ w hlo]
  case reset => decide +kernel

/-! ### Reads of the registers (10_state R29 to R33) -/

/-- STATUS reads BUSY, DONE, FAULT and HERR in bits 0 to 3. -/
theorem State.statusWord_toNat (s : State) :
    s.statusWord.toNat = s.busy.toNat + 2 * s.done.toNat + 4 * s.fault.toNat + 8 * s.herr.toNat := by
  have hb := s.busy.toNat_lt
  have hd := s.done.toNat_lt
  have hf := s.fault.toNat_lt
  have hh := s.herr.toNat_lt
  rw [State.statusWord, BitVec.toNat_ofNat]
  unfold bitAt
  omega

/-- While idle PC reads pc exactly (10_state R31). -/
theorem State.pcWord_idle {s : State} (hb : s.busy = false) : s.pcWord = s.pc.setWidth 32 :=
  if_neg (by simp [hb])

theorem State.afterPcRead_idle {s : State} (hb : s.busy = false) : s.afterPcRead = s :=
  if_neg (by simp [hb])

/-- While busy PC reads some value of at most 4096 (10_state R31; log entry 6). -/
theorem State.pcWord_busy_le {s : State} (hb : s.busy = true) : s.pcWord.toNat ≤ 4096 := by
  have hlt := (Config.busyPc s.draws).isLt
  rw [State.pcWord, if_pos hb, BitVec.toNat_ofNat]
  omega

/-- A read of PC: its word answered, and a draw used up while busy. -/
theorem step_readPc {s : State} {rest : List Event} (h : s.schedule = .host (.read 4 0x300C#14) :: rest) :
    step s = .next (State.answer { s with schedule := rest }.afterPcRead { s with schedule := rest }.pcWord) := by
  rw [step_host h, State.hostAccess]
  exact congrArg _ (State.hostRead_pc _)

/-- Settles O58, register by register; PC is apart, for its read while busy uses up a draw. -/
theorem hostRegisterReads : Obligations.HostRegisterReads := by
  refine ⟨?_, ?_, ?_⟩
  · intro s rest o v hs hv
    have answers {x : Word} (hx : step s = .next (State.answer { s with schedule := rest } x)) (hxv : x.toNat = v) :
        ∃ t, step s = .next t ∧ t.readData.toNat = v ∧ t = { s with schedule := rest, readData := t.readData } :=
      ⟨_, hx, hxv, rfl⟩
    rcases hv with ⟨rfl, rfl⟩ | ⟨rfl, rfl⟩ | ⟨rfl, hb, rfl⟩ | ⟨rfl, hv⟩ | ⟨rfl, rfl⟩ | ⟨rfl, rfl⟩ | ⟨rfl, rfl⟩
    · exact answers (step_readRegister hs (by decide) (by decide) (by decide) (by decide)) (State.statusWord_toNat _)
    · exact answers (step_readRegister hs (by decide) (by decide) (by decide) (by decide)) (startAddress_word_toNat _)
    · have hpc := step_readPc hs
      have hidle : ({ s with schedule := rest } : State).busy = false := hb
      rw [State.afterPcRead_idle hidle, State.pcWord_idle hidle] at hpc
      exact answers hpc (toNat_setWidth_pc s.pc)
    · have hcode : (BitVec.ofNat 32 (causeCode s.faultCause)).toNat = v := by
        simp only [List.mem_cons, Prod.mk.injEq, List.not_mem_nil, or_false] at hv
        rcases hv with ⟨hc, rfl⟩ | ⟨hc, rfl⟩ | ⟨hc, rfl⟩ | ⟨hc, rfl⟩ | ⟨hc, rfl⟩ <;> rw [hc] <;> rfl
      exact answers (step_readRegister hs (by decide) (by decide) (by decide) (by decide)) hcode
    · exact answers (step_readRegister hs (by decide) (by decide) (by decide) (by decide))
        (toNat_setWidth_pc s.faultPc)
    · exact answers (step_readRegister hs (by decide) (by decide) (by decide) (by decide)) rfl
    · exact answers (step_readRegister hs (by decide) (by decide) (by decide) (by decide)) rfl
  · intro s rest hs hb
    have hpc := step_readPc hs
    refine ⟨_, hpc, State.pcWord_busy_le hb, ?_⟩
    rw [State.afterPcRead, if_pos hb]
    rfl
  · intro s hs hb hc
    rw [State.pcWord_idle hb, hs.pcAtFault hc]

end Sys2Proof.Machine

/-! What a command does to the two memories (20_memory R60, R68, R70, R76): it neither reads nor writes IMEM, and it
writes DMEM only where it is a store, to the slot that the store names. -/

namespace Sys2Proof.Machine

/-! ### IMEM -/

theorem State.setDmem_setImem (s : State) (m d : Memory) : (s.setImem m).setDmem d = (s.setDmem d).setImem m := rfl

theorem State.writeSlot_setImem (s : State) (m : Memory) (n : Slot) (v : Nat) :
    (s.setImem m).writeSlot n v = (s.writeSlot n v).setImem m := by
  rw [State.writeSlot, State.setImem_dmem, State.setDmem_setImem, ← State.writeSlot]

/-- The writes of a command are the same whatever IMEM holds, and carry IMEM along. -/
theorem exec_retires_setImem (i : Instr) (s : State) (m : Memory) (hi : i ≠ .halt) :
    ∃ u, exec i s = retire u ∧ exec i (s.setImem m) = retire (u.setImem m) := by
  cases i with
  | halt => exact absurd rfl hi
  | feCmov | feCswap | scCmov | ptCmov =>
    refine ⟨_, rfl, ?_⟩
    rw [apply_ite (State.setImem · m)]
    rfl
  | feSt | scSt | ptEnc | cSt => exact ⟨_, rfl, congrArg retire (State.writeSlot_setImem s m _ _)⟩
  | _ => exact ⟨_, rfl, rfl⟩

theorem exec_setImem (i : Instr) (s : State) (m : Memory) :
    ∃ t, exec i s = .next t ∧ exec i (s.setImem m) = .next (t.setImem m) := by
  by_cases hi : i = .halt
  · subst hi
    exact ⟨s.finishRun, exec_halt s, exec_halt _⟩
  · obtain ⟨u, hu, hm⟩ := exec_retires_setImem i s m hi
    exact ⟨u.advance, hu, hm⟩

/-- That a command writes no IMEM is that it carries along the one it finds. -/
theorem exec_imem {i : Instr} {s t : State} (h : exec i s = .next t) : t.imem = s.imem := by
  obtain ⟨u, hu, hm⟩ := exec_setImem i s s.imem
  obtain rfl : t = u := Host.Outcome.next.inj (h.symm.trans hu)
  have hself : t = t.setImem s.imem := Host.Outcome.next.inj (h.symm.trans hm)
  rw [hself, State.setImem_imem]

/-- Settles O17: `exec_setImem`, with what it says of the IMEM that is there. -/
theorem commandsNeitherReadNorWriteImem : Obligations.CommandsNeitherReadNorWriteImem := by
  intro i s m
  obtain ⟨t, ht, hm⟩ := exec_setImem i s m
  exact ⟨t, ht, exec_imem ht, hm⟩

/-! ### DMEM -/

/-- The slot that a command stores to (20_memory R68). -/
def storeSlot : Instr → Option Slot
  | .feSt n _ | .scSt n _ | .ptEnc n _ | .cSt n => some n
  | _ => none

theorem exec_store {i : Instr} {n : Slot} (hi : storeSlot i = some n) (s : State) :
    ∃ v, exec i s = retire (s.writeSlot n v) := by
  cases i with
  | feSt | scSt | ptEnc | cSt =>
    obtain rfl := Option.some.inj hi
    exact ⟨_, rfl⟩
  | _ => nomatch hi

theorem exec_no_store {i : Instr} (hi : storeSlot i = none) (s : State) :
    ∃ t, exec i s = .next t ∧ t.dmem = s.dmem := by
  cases i with
  | feSt | scSt | ptEnc | cSt => nomatch hi
  | feCmov | feCswap | scCmov | ptCmov => exact ⟨_, rfl, (apply_ite State.dmem _ _ _).trans (ite_self _)⟩
  | cLd => exact ⟨_, rfl, by rw [State.advance_dmem, State.setConds_dmem]⟩
  | _ => exact ⟨_, rfl, rfl⟩

/-- A write leaves every other byte alone, in a memory of any form. -/
theorem Memory.read_write_other (m : Memory) {a x : Nat} (v : Byte) (hx : a ≠ x) :
    (m.write a v).read x = m.read x := by
  induction m with
  | nil =>
    unfold Memory.write
    split <;> simp [Memory.read, hx]
  | cons c m ih =>
    obtain ⟨b, u⟩ := c
    unfold Memory.write
    split
    case isTrue => split <;> simp [Memory.read, hx]
    case isFalse =>
      split
      case isTrue hb => split <;> simp [Memory.read, hx, hb]
      case isFalse => simp only [Memory.read, ih]

/-- A string of writes leaves every byte outside it alone, in a memory of any form. -/
theorem Memory.read_writeBytes_outside (bs : List Byte) {a x : Nat} (hx : x < a ∨ a + bs.length ≤ x) (m : Memory) :
    (m.writeBytes a bs).read x = m.read x := by
  induction bs generalizing a m with
  | nil => rfl
  | cons b bs ih =>
    rw [List.length_cons] at hx
    rw [Memory.writeBytes, ih (by omega), Memory.read_write_other m b (by omega)]

/-- A slot write leaves every byte outside the slot alone, whatever form DMEM has. -/
theorem State.sameDmemOutside_writeSlot (s : State) (n : Slot) (v : Nat) : SameDmemOutside s (s.writeSlot n v) n := by
  intro x hx
  rw [State.writeSlot_dmem, Memory.writeLE, Memory.read_writeBytes_outside _ (by rwa [length_toLE])]

/-- Settles O18: a store writes one slot, and no other command writes DMEM. -/
theorem onlySlotStoresChangeDmem : Obligations.OnlySlotStoresChangeDmem := by
  intro i s t h
  have hstore (n : Slot) (hi : storeSlot i = some n) : SameDmemOutside s t n := by
    obtain ⟨v, hv⟩ := exec_store hi s
    obtain rfl := retire_next.1 (hv ▸ h)
    intro x hx
    rw [State.advance_dmem, State.sameDmemOutside_writeSlot s n v x hx]
  have hkeep (hi : storeSlot i = none) : SameDmem s t ∧ t.dmem = s.dmem := by
    obtain ⟨u, hu, hdmem⟩ := exec_no_store hi s
    obtain rfl : t = u := Host.Outcome.next.inj (h.symm.trans hu)
    exact ⟨fun a => by rw [hdmem], hdmem⟩
  clear h
  cases i with
  | feSt n | scSt n | ptEnc n | cSt n => exact hstore n rfl
  | _ => exact hkeep rfl

end Sys2Proof.Machine

/-! The host's accesses outside the registers: those that the port refuses (20_memory R64, R66, R67), those that reach
the memories (R63, R65), and the bytes of a slot (R62, R70). -/

namespace Sys2Proof.Machine

/-! ### Refused accesses -/

theorem wellFormedAccess_iff (size o : Nat) : wellFormedAccess size o = true ↔ size = 4 ∧ o % 4 = 0 := by
  rw [wellFormedAccess, Bool.and_eq_true, decide_eq_true_iff, decide_eq_true_iff]

/-- The host-protocol errors of 20_memory R64 and R67. -/
def State.RefusesAccess (s : State) (size o : Nat) : Prop :=
  size ≠ 4 ∨ o % 4 ≠ 0 ∨ 0x3020 ≤ o ∨ (s.busy = true ∧ o < 0x3000)

/-- The errors in the order in which the port looks for them. -/
theorem State.RefusesAccess.cases {s : State} {size o : Nat} (h : s.RefusesAccess size o) :
    ¬ wellFormedAccess size o = true ∨ (wellFormedAccess size o = true ∧
      (0x3020 ≤ o ∨ (o < 0x1000 ∧ s.busy = true) ∨ (0x1000 ≤ o ∧ o < 0x3000 ∧ s.busy = true))) := by
  rw [wellFormedAccess_iff]
  by_cases hwf : size = 4 ∧ o % 4 = 0
  · refine .inr ⟨hwf, ?_⟩
    rcases h with hsize | hal | ho | ⟨hb, ho⟩
    · exact absurd hwf.1 hsize
    · exact absurd hwf.2 hal
    · exact .inl ho
    · by_cases hi : o < 0x1000
      · exact .inr (.inl ⟨hi, hb⟩)
      · exact .inr (.inr ⟨by omega, ho, hb⟩)
  · exact .inl hwf

theorem State.hostRead_refused {s : State} {size o : Nat} (h : s.RefusesAccess size o) :
    s.hostRead size o = s.refuseRead := by
  unfold State.hostRead
  rcases h.cases with hwf | ⟨hwf, ho | ⟨ho, hb⟩ | ⟨hlo, hhi, hb⟩⟩
  · rw [if_neg hwf]
  · rw [if_pos hwf, if_neg (by omega), if_neg (by omega), if_neg (by omega), if_neg (by omega)]
  · rw [if_pos hwf, if_pos ho, if_pos hb]
  · rw [if_pos hwf, if_neg (by omega), if_pos hhi, if_pos hb]

theorem State.hostWrite_refused {s : State} {size o : Nat} (h : s.RefusesAccess size o) (w : Word) :
    s.hostWrite size o w = s.setHerr := by
  unfold State.hostWrite
  rcases h.cases with hwf | ⟨hwf, ho | ⟨ho, hb⟩ | ⟨hlo, hhi, hb⟩⟩
  · rw [if_neg hwf]
  · rw [if_pos hwf, if_neg (by omega), if_neg (by omega), if_neg (by omega)]
  · rw [if_pos hwf, if_pos ho, if_pos hb]
  · rw [if_pos hwf, if_neg (by omega), if_pos hhi, if_pos hb]

/-- Settles O55: the access is refused in the state with the event taken. -/
theorem hostProtocolErrorsOnlySetHerr : Obligations.HostProtocolErrorsOnlySetHerr := by
  intro s rest size o h
  have hrefused : State.RefusesAccess { s with schedule := rest } size o.toNat := h
  refine ⟨fun hs => ?_, fun w hs => ?_⟩
  · rw [step_host hs, State.hostAccess, State.hostRead_refused hrefused]
    rfl
  · rw [step_host hs, State.hostAccess, State.hostWrite_refused hrefused]
    rfl

/-! ### Words and slots, byte by byte (20_memory R62) -/

/-- The integer of the four bytes from address a up, byte a in bits 7:0 (20_memory R62 (b)). -/
def Memory.word (m : Memory) (a : Nat) : Nat :=
  (m.read a).toNat + 2 ^ 8 * (m.read (a + 1)).toNat + 2 ^ 16 * (m.read (a + 2)).toNat + 2 ^ 24 * (m.read (a + 3)).toNat

theorem Memory.readLE_four (m : Memory) (a : Nat) : m.readLE a 4 = m.word a := by
  simp only [Memory.readLE, Memory.readBytes, fromLE, Memory.word, Nat.add_assoc, Nat.reduceAdd]
  omega

theorem Memory.word_lt (m : Memory) (a : Nat) : m.word a < 2 ^ 32 := by
  have h := fromLE_lt (m.readBytes a 4)
  rw [Memory.length_readBytes] at h
  exact m.readLE_four a ▸ h

/-- A word written reads back. -/
theorem Memory.word_writeLE {size : Nat} {m : Memory} (h : m.wf size = true) {a : Nat} (ha : a + 4 ≤ size) (w : Word) :
    (m.writeLE a 4 w.toNat).word a = w.toNat := by
  rw [← Memory.readLE_four, Memory.readLE_writeLE h ha]
  exact Nat.mod_eq_of_lt w.isLt

/-- Byte i of a little-endian integer in memory. -/
theorem Memory.read_digit (m : Memory) (a : Nat) {n i : Nat} (hi : i < n) :
    (m.read (a + i)).toNat = m.readLE a n / 2 ^ (8 * i) % 2 ^ 8 := by
  have hlen : i < (m.readBytes a n).length := by rwa [Memory.length_readBytes]
  rw [← Memory.getElem_readBytes m n a i hlen, fromLE_digit, Memory.readLE]

/-- Word j of a little-endian integer in memory: its bytes 4·j to 4·j + 3. -/
theorem Memory.word_digit (m : Memory) (a : Nat) {n j : Nat} (hj : 4 * j + 4 ≤ n) :
    m.word (a + 4 * j) = m.readLE a n / 2 ^ (32 * j) % 2 ^ 32 := by
  have byte (k : Nat) (hk : k < 4) :
      (m.read (a + 4 * j + k)).toNat = m.readLE a n / 2 ^ (32 * j) / 2 ^ (8 * k) % 2 ^ 8 := by
    rw [Nat.add_assoc, m.read_digit a (show 4 * j + k < n by omega), Nat.div_div_eq_div_mul, ← pow_add,
      show 8 * (4 * j + k) = 32 * j + 8 * k by omega]
  have byte0 : (m.read (a + 4 * j)).toNat = m.readLE a n / 2 ^ (32 * j) / 2 ^ (8 * 0) % 2 ^ 8 := byte 0 (by decide)
  rw [Memory.word, byte0, byte 1 (by decide), byte 2 (by decide), byte 3 (by decide)]
  omega

/-- The bytes that a command's write of v gives a slot (20_memory R70). -/
theorem State.read_writeSlot_digit (s : State) (n : Slot) (hwf : s.dmem.wf Config.dmemBytes = true) {v i : Nat}
    (hv : v < 2 ^ 256) (hi : i < 32) :
    ((s.writeSlot n v).dmem.read (32 * n.val + i)).toNat = v / 2 ^ (8 * i) % 2 ^ 8 := by
  have hback : (s.writeSlot n v).readSlot n = v := by
    rw [State.readSlot_writeSlot s n v hwf]
    exact Nat.mod_eq_of_lt (lt_of_lt_of_eq hv (by decide))
  have hbyte := Memory.read_digit (s.writeSlot n v).dmem (32 * n.val) hi
  rwa [show Memory.readLE _ (32 * n.val) 32 = (s.writeSlot n v).readSlot n from rfl, hback] at hbyte

/-! ### The memories' part of the window (20_memory R63) -/

/-- The memory that a window offset below 0x3000 lies in. -/
def State.windowMemory (s : State) (o : Nat) : Memory := if o < 0x1000 then s.imem else s.dmem

/-- The place of a window offset in its memory. -/
def windowAddress (o : Nat) : Nat := if o < 0x1000 then o else o - 0x1000

/-- The memory that a window offset lies in, replaced. -/
def State.setWindowMemory (s : State) (o : Nat) (m : Memory) : State :=
  if o < 0x1000 then s.setImem m else s.setDmem m

@[simp] theorem State.windowMemory_setWindowMemory (s : State) (o : Nat) (m : Memory) :
    (s.setWindowMemory o m).windowMemory o = m := by
  unfold State.setWindowMemory State.windowMemory
  split <;> rfl

/-- An aligned word of the window lies inside one canonical memory. -/
theorem State.Legal.windowMemory {s : State} (h : s.Legal) {o : Nat} (hal : o % 4 = 0) (ho : o < 0x3000) :
    ∃ size, (s.windowMemory o).wf size = true ∧ windowAddress o + 4 ≤ size := by
  unfold State.windowMemory windowAddress
  split
  · exact ⟨Config.imemBytes, h.imem, by unfold Config.imemBytes; omega⟩
  · exact ⟨Config.dmemBytes, h.dmem, by unfold Config.dmemBytes; omega⟩

section IdleAccess

variable {s : State}

theorem State.hostRead_memory {o : Nat} (hb : s.busy = false) (hal : o % 4 = 0) (ho : o < 0x3000) :
    s.hostRead 4 o = s.answer (BitVec.ofNat 32 ((s.windowMemory o).word (windowAddress o))) := by
  have hwf : wellFormedAccess 4 o = true := (wellFormedAccess_iff 4 o).2 ⟨rfl, hal⟩
  have hidle : ¬ s.busy = true := by simp [hb]
  rw [← Memory.readLE_four, State.windowMemory, windowAddress]
  by_cases hi : o < 0x1000
  · rw [State.hostRead, if_pos hwf, if_pos hi, if_neg hidle, if_pos hi, if_pos hi]
  · rw [State.hostRead, if_pos hwf, if_neg hi, if_pos ho, if_neg hidle, if_neg hi, if_neg hi]

theorem State.hostWrite_memory {o : Nat} (hb : s.busy = false) (hal : o % 4 = 0) (ho : o < 0x3000) (w : Word) :
    s.hostWrite 4 o w = s.setWindowMemory o ((s.windowMemory o).writeLE (windowAddress o) 4 w.toNat) := by
  have hwf : wellFormedAccess 4 o = true := (wellFormedAccess_iff 4 o).2 ⟨rfl, hal⟩
  have hidle : ¬ s.busy = true := by simp [hb]
  rw [State.setWindowMemory, State.windowMemory, windowAddress]
  by_cases hi : o < 0x1000
  · rw [State.hostWrite, if_pos hwf, if_pos hi, if_neg hidle, if_pos hi, if_pos hi, if_pos hi]
  · rw [State.hostWrite, if_pos hwf, if_neg hi, if_pos ho, if_neg hidle, if_neg hi, if_neg hi, if_neg hi]

variable {rest : List Event} {o : BitVec 14}

theorem step_readMemory (h : s.schedule = .host (.read 4 o) :: rest) (hb : s.busy = false) (hal : o.toNat % 4 = 0)
    (ho : o.toNat < 0x3000) :
    step s = .next (State.answer { s with schedule := rest }
      (BitVec.ofNat 32 ((s.windowMemory o.toNat).word (windowAddress o.toNat)))) := by
  have hidle : ({ s with schedule := rest } : State).busy = false := hb
  rw [step_host h, State.hostAccess, State.hostRead_memory hidle hal ho]
  rfl

theorem step_writeMemory {w : Word} (h : s.schedule = .host (.write 4 o w) :: rest) (hb : s.busy = false)
    (hal : o.toNat % 4 = 0) (ho : o.toNat < 0x3000) :
    step s = .next (State.setWindowMemory { s with schedule := rest } o.toNat
      ((s.windowMemory o.toNat).writeLE (windowAddress o.toNat) 4 w.toNat)) := by
  have hidle : ({ s with schedule := rest } : State).busy = false := hb
  rw [step_host h, State.hostAccess, State.hostWrite_memory hidle hal ho]
  rfl

end IdleAccess

/-- Settles O54: the memories of the window are one case, by `State.windowMemory`, and a slot is its bytes and words by
`Memory.read_digit` and `Memory.word_digit`. -/
theorem hostReachesMemoriesWhileIdle : Obligations.HostReachesMemoriesWhileIdle := by
  refine ⟨?access, fun s n => ⟨fun i hi => ?byte, fun j hj => ?word, fun hwf v hv i hi => ?store⟩⟩
  case access =>
    intro s rest o hs hb hal ho isI a memOf wordOf
    refine ⟨fun hread => ?_, fun w hwrite => ?_⟩
    · exact ⟨_, step_readMemory hread hb hal ho, Nat.mod_eq_of_lt (Memory.word_lt _ _), rfl⟩
    · obtain ⟨size, hwf, hin⟩ := hs.windowMemory hal ho
      refine ⟨_, step_writeMemory hwrite hb hal ho, ?_, fun x hx => ?_, ?_⟩
      · change (State.windowMemory _ o.toNat).word _ = _
        rw [State.windowMemory_setWindowMemory]
        exact Memory.word_writeLE hwf hin w
      · change (State.windowMemory _ o.toNat).read x = _
        rw [State.windowMemory_setWindowMemory]
        exact Memory.read_writeLE_outside hwf hin _ x hx
      · unfold State.setWindowMemory
        split <;> rfl
  case byte => exact Memory.read_digit s.dmem _ hi
  case word => exact Memory.word_digit s.dmem _ (show 4 * j + 4 ≤ 32 by omega)
  case store => exact State.read_writeSlot_digit s n hwf hv hi

end Sys2Proof.Machine

/-! The encoding (30_encoding R90 to R99). A word is its fields, so that a test under a mask and an equation with a packed
word are both read field by field. The two directions of the round trip then meet in one fact about each row: a word
passes the row's mask exactly when it is the encoding of the command that the row builds from it. -/

namespace Sys2Proof

/-! ### A word is its fields (30_encoding R91, R92) -/

/-- Every word is a word of format R. -/
theorem packR_fields (w : Word) : packR (nib (fieldK w)) (nib (fieldE w)) (nib (fieldC w)) (nib (fieldB w))
    (nib (fieldA w)) (nib (fieldD w)) (opOf w) = w := by
  apply BitVec.eq_of_getLsbD_eq
  intro i hi
  simp only [getLsbD_packR, nib, fieldK, fieldE, fieldC, fieldB, fieldA, fieldD, opOf, BitVec.ofFin_toFin,
    BitVec.getLsbD_extractLsb']
  grind

/-- Every word is a word of format I. -/
theorem packI_fields (w : Word) : packI (BitVec.ofNat 20 (fieldImm20 w)) (nib (fieldD w)) (opOf w) = w := by
  apply BitVec.eq_of_getLsbD_eq
  intro i hi
  simp only [getLsbD_packI, nib, fieldImm20, fieldD, opOf, BitVec.ofFin_toFin, BitVec.ofNat_toNat, BitVec.setWidth_eq,
    BitVec.getLsbD_extractLsb']
  grind

theorem word_eq_iff_fields (v w : Word) : v = w ↔ nib (fieldK v) = nib (fieldK w) ∧ nib (fieldE v) = nib (fieldE w) ∧
    nib (fieldC v) = nib (fieldC w) ∧ nib (fieldB v) = nib (fieldB w) ∧ nib (fieldA v) = nib (fieldA w) ∧
    nib (fieldD v) = nib (fieldD w) ∧ opOf v = opOf w := by
  constructor
  · rintro rfl
    simp only [and_self]
  · rintro ⟨hk, he, hc, hb, ha, hd, hop⟩
    rw [← packR_fields v, hk, he, hc, hb, ha, hd, hop, packR_fields]

theorem packR_eq_iff (k e c b a d : BitVec 4) (op : BitVec 8) (w : Word) : packR k e c b a d op = w ↔
    nib (fieldK w) = k ∧ nib (fieldE w) = e ∧ nib (fieldC w) = c ∧ nib (fieldB w) = b ∧ nib (fieldA w) = a ∧
    nib (fieldD w) = d ∧ opOf w = op := by
  simp only [eq_comm (b := w), word_eq_iff_fields, fieldK_packR, fieldE_packR, fieldC_packR, fieldB_packR, fieldA_packR,
    fieldD_packR, opOf_packR, nib, BitVec.ofFin_toFin]

/-- Format N is format R with every field 0. -/
theorem packN_eq_iff (op : BitVec 8) (w : Word) : packN op = w ↔
    nib (fieldK w) = 0#4 ∧ nib (fieldE w) = 0#4 ∧ nib (fieldC w) = 0#4 ∧ nib (fieldB w) = 0#4 ∧ nib (fieldA w) = 0#4 ∧
    nib (fieldD w) = 0#4 ∧ opOf w = op := packR_eq_iff 0#4 0#4 0#4 0#4 0#4 0#4 op w

theorem slot_low_eq_fieldB (w : Word) : (BitVec.ofFin (fieldSlot w) : BitVec 8).extractLsb' 0 4 = nib (fieldB w) := by
  apply BitVec.eq_of_getLsbD_eq
  intro i hi
  simp only [nib, fieldSlot, fieldB, BitVec.ofFin_toFin, BitVec.getLsbD_extractLsb']
  grind

theorem slot_high_eq_fieldC (w : Word) : (BitVec.ofFin (fieldSlot w) : BitVec 8).extractLsb' 4 4 = nib (fieldC w) := by
  apply BitVec.eq_of_getLsbD_eq
  intro i hi
  simp only [nib, fieldSlot, fieldC, BitVec.ofFin_toFin, BitVec.getLsbD_extractLsb']
  grind

/-- A word that holds its own slot field, as the commands of format M do, is fixed by the other fields. -/
theorem packM_fieldSlot_eq_iff (k d : BitVec 4) (op : BitVec 8) (w : Word) :
    packM k (BitVec.ofFin (fieldSlot w)) d op = w ↔
      nib (fieldK w) = k ∧ nib (fieldE w) = 0#4 ∧ nib (fieldA w) = 0#4 ∧ nib (fieldD w) = d ∧ opOf w = op := by
  simp only [packM_eq_packR, packR_eq_iff, slot_low_eq_fieldB, slot_high_eq_fieldC, true_and]

theorem packI_eq_iff (imm : BitVec 20) (d : BitVec 4) (op : BitVec 8) (w : Word) : packI imm d op = w ↔
    BitVec.ofNat 20 (fieldImm20 w) = imm ∧ nib (fieldD w) = d ∧ opOf w = op := by
  constructor
  · rintro rfl
    simp only [fieldImm20_packI, fieldD_packI, opOf_packI, nib, BitVec.ofFin_toFin, BitVec.ofNat_toNat,
      BitVec.setWidth_eq, and_self]
  · rintro ⟨rfl, rfl, rfl⟩
    exact packI_fields w

/-- A test under a mask is one test for each field. -/
theorem and_eq_iff_fields (w m f : Word) : w &&& m = f ↔
    nib (fieldK w) &&& m.extractLsb' 28 4 = f.extractLsb' 28 4 ∧
    nib (fieldE w) &&& m.extractLsb' 24 4 = f.extractLsb' 24 4 ∧
    nib (fieldC w) &&& m.extractLsb' 20 4 = f.extractLsb' 20 4 ∧
    nib (fieldB w) &&& m.extractLsb' 16 4 = f.extractLsb' 16 4 ∧
    nib (fieldA w) &&& m.extractLsb' 12 4 = f.extractLsb' 12 4 ∧
    nib (fieldD w) &&& m.extractLsb' 8 4 = f.extractLsb' 8 4 ∧
    opOf w &&& m.extractLsb' 0 8 = f.extractLsb' 0 8 := by
  simp only [word_eq_iff_fields, nib, fieldK, fieldE, fieldC, fieldB, fieldA, fieldD, opOf, BitVec.ofFin_toFin,
    BitVec.extractLsb'_and]

/-- A fixed field's part of a mask is all ones, and keeps the field. -/
theorem and_15 (x : BitVec 4) : x &&& 15#4 = x := BitVec.and_allOnes

/-- Every mask keeps the opcode. -/
theorem and_255 (x : BitVec 8) : x &&& 255#8 = x := BitVec.and_allOnes

theorem fieldBit_eq_mod (w : Word) : fieldBit w = (nib (fieldA w)).toNat % 2 := by
  simp only [fieldBit, fieldA, nib, BitVec.ofFin_toFin, BitVec.extractLsb'_toNat]
  omega

/-- The mask of CSET leaves one bit of field a free, the immediate (30_encoding R93). -/
theorem fieldA_and_14_eq_zero_iff (w : Word) :
    nib (fieldA w) &&& 14#4 = 0#4 ↔ nib (fieldA w) = BitVec.ofNat 4 (fieldBit w) := by
  rw [fieldBit_eq_mod]
  generalize nib (fieldA w) = a
  revert a
  decide

/-! ### The rows (30_encoding R95) -/

/-- A word passes the row's mask exactly when it is the encoding of the command that the row builds from it. -/
def Row.Exact (r : Row) : Prop := ∀ w, w &&& r.mask = r.fixed ↔ encode (r.build w) = w

/-- In every row, either side says of a fixed field that it has its value, and of an operand's field nothing. -/
theorem opcodeTable_exact : ∀ r ∈ opcodeTable, r.Exact := by
  simp only [opcodeTable, controlRows, fieldRows, slotRows, scalarRows, groupRows, hashRows, List.forall_mem_append,
    List.forall_mem_cons]
  and_intros <;> intro w <;> simp [encode, and_eq_iff_fields, packR_eq_iff, packM_fieldSlot_eq_iff, packI_eq_iff,
    packN_eq_iff, and_15, and_255, fieldA_and_14_eq_zero_iff]

theorem opcodeTable_build_wellFormed (w : Word) : ∀ r ∈ opcodeTable, (r.build w).wellFormed = true := by
  have hbit : bitInRange (fieldBit w) = true := decide_eq_true (BitVec.isLt _)
  have himm : imm20InRange (fieldImm20 w) = true := decide_eq_true (BitVec.isLt _)
  simp [opcodeTable, controlRows, fieldRows, slotRows, scalarRows, groupRows, hashRows, Instr.wellFormed, hbit,
    himm]

/-! ### The decoder (30_encoding R94) -/

/-- The opcodes of the 58 rows. -/
def opcodes : List (BitVec 8) := opcodeTable.map fun r => opOf r.fixed

/-- No two rows share an opcode. -/
theorem opcodes_nodup : opcodes.Nodup := by decide

theorem rowOf_of_mem {w : Word} {r : Row} (hr : r ∈ opcodeTable) (hop : opOf w = opOf r.fixed) : rowOf w = some r := by
  cases h : rowOf w with
  | none =>
    have := List.find?_eq_none.1 h r hr
    simp [hop] at this
  | some r' =>
    have hop' : opOf r'.fixed = opOf w := by simpa using List.find?_some h
    rw [List.inj_on_of_nodup_map opcodes_nodup (List.mem_of_find?_eq_some h) hr (hop'.trans hop)]

theorem rowOf_eq_none_iff (w : Word) : rowOf w = none ↔ opOf w ∉ opcodes := by
  simp [rowOf, opcodes, List.find?_eq_none]

theorem decode_of_rowOf {w : Word} {r : Row} (h : rowOf w = some r) :
    decode w = if w &&& r.mask = r.fixed then .instr (r.build w) else .illegalField := by
  rw [decode, h]

/-- What it takes for a word to decode to a command. -/
theorem decode_eq_instr_iff (w : Word) (i : Instr) :
    decode w = .instr i ↔ ∃ r, rowOf w = some r ∧ w &&& r.mask = r.fixed ∧ r.build w = i := by
  cases h : rowOf w with
  | none => simp [decode, h]
  | some r => by_cases hm : w &&& r.mask = r.fixed <;> simp [decode_of_rowOf h, hm]

theorem decode_eq_illegalOpcode_iff (w : Word) : decode w = .illegalOpcode ↔ opOf w ∉ opcodes := by
  rw [← rowOf_eq_none_iff]
  cases h : rowOf w with
  | none => simp [decode, h]
  | some r =>
    rw [decode_of_rowOf h]
    split <;> simp

/-- Each row's command has the encoding that the row's mask, match and fields give. -/
theorem encodedBy_of_mem {r : Row} (hr : r ∈ opcodeTable) : Machine.EncodedBy r.mask r.fixed r.build :=
  fun _ hop => decode_of_rowOf (rowOf_of_mem hr hop)

/-! ### The round trip -/

theorem opOf_encode (i : Instr) : opOf (encode i) = i.opcode := by
  cases i <;> simp only [encode, Instr.opcode, opOf_packN, opOf_packR, opOf_packM, opOf_packI]

theorem fieldBit_packR (k e c b a d : BitVec 4) (op : BitVec 8) : fieldBit (packR k e c b a d op) = a.toNat % 2 := by
  rw [fieldBit_eq_mod, fieldA_packR]
  rfl

/-- The row of a command's opcode reads the command's operands back. -/
theorem exists_rowOf_encode {i : Instr} (hwf : i.wellFormed = true) :
    ∃ r, rowOf (encode i) = some r ∧ r.build (encode i) = i := by
  rw [rowOf, opOf_encode]
  cases i with
  | cset k imm =>
    have himm : imm < 2 := of_decide_eq_true hwf
    have hbit : fieldBit (encode (.cset k imm)) = imm := by
      rw [encode, fieldBit_packR, BitVec.toNat_ofNat]
      omega
    exact ⟨_, rfl, congrArg₂ Instr.cset (fieldK_packR ..) hbit⟩
  | feLdi d imm | scLdi d imm =>
    have himm : imm < 2 ^ 20 := of_decide_eq_true hwf
    exact ⟨_, rfl, by simpa [encode] using himm⟩
  | _ => exact ⟨_, rfl, by simp [encode]⟩

/-- Settles O1: the command's row reads it back, and its word passes the row's mask because it is the encoding of what
was read. -/
theorem decodeOfEncodeIsTheInstruction : Obligations.DecodeOfEncodeIsTheInstruction := by
  intro i hwf
  obtain ⟨r, hrow, hbuild⟩ := exists_rowOf_encode hwf
  have hmask : encode i &&& r.mask = r.fixed :=
    (opcodeTable_exact r (List.mem_of_find?_eq_some hrow) _).2 (by rw [hbuild])
  exact (decode_eq_instr_iff _ _).2 ⟨r, hrow, hmask, hbuild⟩

/-- Settles O2: the word passed its row's mask, so it is the encoding of what the row built. -/
theorem encodeOfDecodeIsTheWord : Obligations.EncodeOfDecodeIsTheWord := by
  intro w i h
  obtain ⟨r, hrow, hmask, rfl⟩ := (decode_eq_instr_iff w i).1 h
  have hr : r ∈ opcodeTable := List.mem_of_find?_eq_some hrow
  exact ⟨opcodeTable_build_wellFormed w r hr, (opcodeTable_exact r hr w).1 hmask⟩

/-! ### The opcode map (30_encoding R95, R97, R99) -/

/-- Settles O3: `encodedBy_of_mem` row by row, and `decode_eq_illegalOpcode_iff` for the opcodes of no row. -/
theorem decoderFollowsTheOpcodeMap : Obligations.DecoderFollowsTheOpcodeMap := by
  have h : (∀ r ∈ opcodeTable, Machine.EncodedBy r.mask r.fixed r.build) ∧
      ∀ w, opOf w ∉ opcodes → decode w = .illegalOpcode :=
    ⟨fun _ => encodedBy_of_mem, fun w => (decode_eq_illegalOpcode_iff w).2⟩
  simp only [opcodeTable, controlRows, fieldRows, slotRows, scalarRows, groupRows, hashRows, List.forall_mem_append,
    List.forall_mem_cons, List.not_mem_nil, false_implies, implies_true, and_true, and_assoc] at h
  exact h

/-- Of the 256 opcodes, the ranges of R97 (a) are those of no row. -/
theorem not_mem_opcodes_iff : ∀ op : BitVec 8, op ∉ opcodes ↔ Machine.unassignedOpcode op.toNat := by
  unfold Machine.unassignedOpcode
  decide

/-- Settles O4. -/
theorem unassignedOpcodesAreTheOnlyIllegalOnes : Obligations.UnassignedOpcodesAreTheOnlyIllegalOnes :=
  fun w => (decode_eq_illegalOpcode_iff w).trans (not_mem_opcodes_iff (opOf w))

/-- Settles O5: twelve fixed words, which the decoder evaluates. -/
theorem workedEncodingsDecode : Obligations.WorkedEncodingsDecode := by
  unfold Obligations.WorkedEncodingsDecode
  decide

end Sys2Proof

/-! Control is independent of data (40_control R122, 70_reset R311): what decides the machine's course is a projection of
the state, no command's writes reach it, and every other update acts on it by what it finds there. -/

namespace Sys2Proof.Machine

/-! ### The state without its data -/

/-- The state with register contents, DMEM contents and the value last read by the host cleared. -/
def State.control (s : State) : State := (s.clearRegs.setDmem []).answer 0#32

theorem sameControl_iff (s t : State) : SameControl s t ↔ t.control = s.control := by
  simp only [SameControl, SameRecord, State.control, State.answer, State.setDmem, State.clearRegs, State.mk.injEq,
    true_and, and_assoc]

theorem State.control_setDmem (s : State) (m : Memory) : (s.setDmem m).control = s.control := rfl

/-- A command writes registers and DMEM, no control. -/
theorem CommandWrites.control_eq {i : Instr} {s u : State} (h : CommandWrites i s u) : u.control = s.control := by
  induction h with
  | start => rfl
  | clear _ _ _ _ _ ih | field _ _ _ _ ih | scalar _ _ _ _ ih | point _ _ _ _ _ ih | cond _ _ _ _ ih
  | conds _ _ _ ih => exact ih
  | store n v _ ih => exact (State.control_setDmem _ _).trans ih

/-! ### Updates that act on control by what they find there -/

/-- What f makes of the control of a state rests on that control alone. -/
def RespectsControl (f : State → State) : Prop := ∀ s, (f s).control = (f s.control).control

theorem SameControl.map {f : State → State} {s s' : State} (h : SameControl s s') (hf : RespectsControl f) :
    SameControl (f s) (f s') := by
  rw [sameControl_iff] at h ⊢
  rw [hf s', h, ← hf s]

namespace RespectsControl

variable {f g : State → State}

theorem comp (hf : RespectsControl f) (hg : RespectsControl g) : RespectsControl fun s => f (g s) := by
  intro s
  calc (f (g s)).control = (f (g s).control).control := hf (g s)
    _ = (f (g s.control).control).control := by rw [hg s]
    _ = (f (g s.control)).control := (hf (g s.control)).symm

/-- A choice that does not look at the state. -/
theorem ite {c : Prop} [Decidable c] (hf : RespectsControl f) (hg : RespectsControl g) :
    RespectsControl fun s => if c then f s else g s := by
  split
  · exact hf
  · exact hg

/-- A choice by BUSY, which is control. -/
theorem ifBusy (hf : RespectsControl f) (hg : RespectsControl g) :
    RespectsControl fun s => if s.busy then f s else g s := by
  intro s
  have hbusy : s.control.busy = s.busy := rfl
  simp only [hbusy]
  split
  · exact hf s
  · exact hg s

/-! The host's accesses: a read answers into a field that is no control, a write to DMEM leaves control alone, and every
other one finds what it needs in it. -/

theorem hostStart : RespectsControl State.hostStart := .ifBusy (fun _ => rfl) (fun _ => rfl)

theorem hostAbort : RespectsControl State.hostAbort := .ifBusy (fun _ => rfl) (fun _ => rfl)

theorem hostZeroize : RespectsControl State.hostZeroize := .ifBusy (fun _ => rfl) (fun _ => rfl)

theorem writeCtrl (w : Word) : RespectsControl (State.writeCtrl · w) := by
  have hie : RespectsControl (State.withIe · w) := fun _ => rfl
  have herr : RespectsControl State.setHerr := fun _ => rfl
  rw [funext (State.writeCtrl_eq · w)]
  exact .ite hie (.ite (herr.comp hie) (.ite (hostStart.comp hie) (.ite (hostAbort.comp hie) (hostZeroize.comp hie))))

theorem writeRegister (o : Nat) (w : Word) : RespectsControl (State.writeRegister · o w) :=
  .ite (writeCtrl w) (.ite (fun _ => rfl) (.ite (fun _ => rfl) fun _ => rfl))

theorem answer (v : State → Word) (hf : RespectsControl f) : RespectsControl fun s => (f s).answer (v s) := hf

theorem afterPcRead : RespectsControl State.afterPcRead := .ifBusy (fun _ => rfl) (fun _ => rfl)

theorem hostRead (size o : Nat) : RespectsControl (State.hostRead · size o) := by
  have refuse : RespectsControl State.refuseRead := fun _ => rfl
  have reply (v : State → Word) : RespectsControl fun s => s.answer (v s) := fun _ => rfl
  exact .ite (.ite (.ifBusy refuse (reply _)) (.ite (.ifBusy refuse (reply _))
    (.ite (afterPcRead.answer _) (.ite (reply _) refuse)))) refuse

theorem hostWrite (size o : Nat) (w : Word) : RespectsControl (State.hostWrite · size o w) := by
  have herr : RespectsControl State.setHerr := fun _ => rfl
  have himem : RespectsControl fun s => s.setImem (s.imem.writeLE o 4 w.toNat) := fun _ => rfl
  have hdmem : RespectsControl fun s => s.setDmem (s.dmem.writeLE (o - 0x1000) 4 w.toNat) := fun _ => rfl
  exact .ite (.ite (.ifBusy herr himem) (.ite (.ifBusy herr hdmem) (.ite (writeRegister o w) herr))) herr

theorem hostAccess (a : HostAccess) : RespectsControl (State.hostAccess · a) := by
  cases a with
  | read size offset => exact hostRead size offset.toNat
  | write size offset value => exact hostWrite size offset.toNat value

end RespectsControl

theorem SameControl.raiseFault {s s' : State} (h : SameControl s s') (c : FaultCause) (w : Word) :
    SameControl (s.raiseFault c w) (s'.raiseFault c w) :=
  h.map (f := (State.raiseFault · c w)) fun _ => rfl

/-! ### Steps and runs -/

/-- Both outcomes are next states that agree on control, or the same fault. -/
def SameOutcome (o o' : Host.Outcome State Fault Refusal) : Prop :=
  (∃ t t', o = .next t ∧ o' = .next t' ∧ SameControl t t') ∨ (∃ r, o = .fault r ∧ o' = .fault r)

theorem SameOutcome.next {t t' : State} (h : SameControl t t') : SameOutcome (.next t) (.next t') :=
  .inl ⟨t, t', rfl, rfl, h⟩

/-- What a command answers, of control: HALT ends the run, every other command moves the pc. -/
theorem exec_sameOutcome (i : Instr) {s s' : State} (h : SameControl s s') : SameOutcome (exec i s) (exec i s') := by
  by_cases hi : i = .halt
  · subst hi
    exact .next (h.map fun _ => rfl)
  · obtain ⟨u, hu, he⟩ := exec_retires i s hi
    obtain ⟨u', hu', he'⟩ := exec_retires i s' hi
    have huu : SameControl u u' := by
      rw [sameControl_iff] at h ⊢
      rw [hu'.control_eq, h, hu.control_eq]
    rw [he, he']
    exact .next (huu.map fun _ => rfl)

/-- The engine's branches look at BUSY, abort_req, pc and IMEM, which are control. -/
theorem engineStep_sameOutcome {s s' : State} (h : SameControl s s') : SameOutcome s.engineStep s'.engineStep := by
  obtain ⟨hpc, himem, habort, _, hbusy, _⟩ := id h
  have hword : s'.fetchedWord = s.fetchedWord := by rw [State.fetchedWord, hpc, himem, ← State.fetchedWord]
  unfold State.engineStep State.perform
  rw [hpc, habort, hbusy, hword]
  split
  case isFalse => exact .next h
  case isTrue =>
    split
    case isTrue => exact .next ((h.map (f := State.consumeAbort) fun _ => rfl).raiseFault _ _)
    case isFalse =>
      split
      case isTrue => exact .next (h.raiseFault _ _)
      case isFalse =>
        split
        case isFalse => exact .inr ⟨_, rfl, rfl⟩
        case isTrue =>
          split
          case h_1 i _ => exact exec_sameOutcome i h
          case h_2 => exact .next (h.raiseFault _ _)
          case h_3 => exact .next (h.raiseFault _ _)

/-- The event at the head of the schedule is the same, and each kind of event respects control. -/
theorem step_sameOutcome {s s' : State} (h : SameControl s s') : SameOutcome (step s) (step s') := by
  have hschedule : s'.schedule = s.schedule := by
    obtain ⟨_, _, _, _, _, _, _, _, _, _, hschedule, _⟩ := h
    exact hschedule
  have taken (rest : List Event) : SameControl { s with schedule := rest } { s' with schedule := rest } :=
    h.map (f := fun s => { s with schedule := rest }) fun _ => rfl
  unfold step State.agentStep
  rw [hschedule]
  split
  case h_1 => exact engineStep_sameOutcome h
  case h_2 rest _ => exact engineStep_sameOutcome (taken rest)
  case h_3 a rest _ => exact .next ((taken rest).map (RespectsControl.hostAccess a))
  case h_4 rest _ => exact .next ((taken rest).map (f := State.hardReset) fun _ => rfl)

theorem core_run_succ_of_next (M : Host.Core) {k : Nat} {s t : M.State} (h : M.step s = .next t) :
    M.run (k + 1) s = M.run k t := by
  simp only [Host.Core.run, h]

theorem core_run_succ_of_fault (M : Host.Core) {k : Nat} {s : M.State} {r : M.Fault} (h : M.step s = .fault r) :
    M.run (k + 1) s = .fault r := by
  simp only [Host.Core.run, h]

theorem runSteps_succ_of_next {k : Nat} {s t : State} (h : step s = .next t) : runSteps (k + 1) s = runSteps k t :=
  core_run_succ_of_next core h

theorem runSteps_succ_of_fault {k : Nat} {s : State} {r : Fault} (h : step s = .fault r) :
    runSteps (k + 1) s = .fault r :=
  core_run_succ_of_fault core h

/-- Settles O19, by induction on the number of steps. -/
theorem controlFlowIsIndependentOfData : Obligations.ControlFlowIsIndependentOfData := by
  intro k
  induction k with
  | zero => exact fun s s' h => SameOutcome.next h
  | succ k ih =>
    intro s s' h
    rcases step_sameOutcome h with ⟨t, t', ht, ht', htt⟩ | ⟨r, hr, hr'⟩
    · rw [runSteps_succ_of_next ht, runSteps_succ_of_next ht']
      exact ih t t' htt
    · exact .inr ⟨r, runSteps_succ_of_fault hr, runSteps_succ_of_fault hr'⟩

end Sys2Proof.Machine

/-! The engine's order and the control commands (40_control R120 to R134): where the pc goes, what a step runs, and what
the commands on conditions, on all registers and on none change; then what a load finds in the slot that a store wrote. -/

namespace Sys2Proof.Machine

/-! ### The pc (40_control R120, R121) -/

theorem toNat_pc_add_four {pc : BitVec 13} (h : pc.toNat ≤ 4092) : (pc + 4#13).toNat = pc.toNat + 4 := by
  rw [BitVec.toNat_add]
  exact Nat.mod_eq_of_lt (show pc.toNat + 4 < 8192 by omega)

/-- No command sets or clears STATUS.FAULT. -/
theorem exec_fault {i : Instr} {s t : State} (h : exec i s = .next t) : t.fault = s.fault := by
  rcases exec_next h with ⟨_, rfl⟩ | ⟨u, hu, rfl⟩
  · rfl
  · have hfault : u.control.fault = s.control.fault := by rw [hu.control_eq]
    exact hfault

/-- Settles O15: a command's writes leave the pc to the advance, and of the engine's steps only those that take a fault
set FAULT. -/
theorem pcAdvancesByFourOrStays : Obligations.PcAdvancesByFourOrStays := by
  refine ⟨fun i s t hi h => ?command, fun s t h => ?halt, fun s t h hclear hset => ?fault⟩
  case command =>
    obtain ⟨u, hu, he⟩ := exec_retires i s hi
    obtain rfl := retire_next.1 (he ▸ h)
    rw [State.advance_pc, hu.pc_eq]
    exact ⟨rfl, toNat_pc_add_four⟩
  case halt =>
    obtain rfl := Host.Outcome.next.inj h
    rfl
  case fault =>
    have unset (heq : t.fault = s.fault) : t.pc = s.pc ∧ t.faultPc = s.pc :=
      absurd (hset.symm.trans (heq.trans hclear)) (by decide)
    rcases State.engineStep_next h with ⟨_, rfl⟩ | ⟨_, _, rfl⟩ | ⟨_, _, _, rfl⟩ |
      ⟨_, _, _, ⟨_, rfl⟩ | ⟨_, rfl⟩ | ⟨i, _, hi⟩⟩
    · exact unset rfl
    · exact ⟨rfl, rfl⟩
    · exact ⟨rfl, rfl⟩
    · exact ⟨rfl, rfl⟩
    · exact ⟨rfl, rfl⟩
    · exact unset (exec_fault hi)

/-- A running engine that no abort stops runs the command it fetches. -/
theorem State.engineStep_instr {s : State} {i : Instr} (hb : s.busy = true) (ha : s.abortReq = false)
    (hpc : isCommandAddress s.pc = true) (hd : decode s.fetchedWord = .instr i) : s.engineStep = exec i s := by
  obtain ⟨_, hlt⟩ := (isCommandAddress_iff _).1 hpc
  have hne : s.pc ≠ 4096#13 := by
    intro h
    rw [h] at hlt
    exact absurd hlt (by decide)
  rw [State.engineStep, if_pos hb, ha, if_neg Bool.false_ne_true, if_neg hne, if_pos hpc, State.perform, hd]

/-- Settles O6: the fetched word is the four bytes' word, and a word that decodes is the encoding of a command. -/
theorem stepRunsTheDecodedCommand : Obligations.StepRunsTheDecodedCommand := by
  intro s rest i hsched hb ha hal hlt hdec
  have hword : s.fetchedWord = BitVec.ofNat 32 (s.imem.word s.pc.toNat) := by rw [State.fetchedWord, Memory.readLE_four]
  have hfetch : decode s.fetchedWord = .instr i := hword ▸ hdec
  have hpc : isCommandAddress s.pc = true := (isCommandAddress_iff _).2 ⟨hal, hlt⟩
  refine ⟨(encodeOfDecodeIsTheWord _ i hdec).1, ?_⟩
  exact (step_engine hsched).trans (State.engineStep_instr (s := { s with schedule := rest }) hb ha hpc hfetch)

/-! ### Frames -/

theorem Frame.refl (s : State) : Frame s s [] [] [] [] :=
  ⟨fun _ _ => rfl, fun _ _ => rfl, fun _ _ => rfl, fun _ _ => rfl, fun _ => rfl, fun _ => rfl, ⟨rfl, rfl⟩,
    rfl, rfl, rfl, rfl, rfl, ⟨rfl, rfl, rfl⟩, rfl, rfl, rfl⟩

section Frames

variable {s u : State} {fs : List FReg} {ss : List SReg} {ps : List PReg} {cs : List CReg}

/-- A frame says nothing of the pc. -/
theorem Frame.advance (h : Frame s u fs ss ps cs) : Frame s u.advance fs ss ps cs := h

theorem Frame.setC (h : Frame s u fs ss ps cs) (k : CReg) (b : Bool) : Frame s (u.setC k b) fs ss ps (k :: cs) := by
  obtain ⟨hF, hS, hP, hC, hrest⟩ := h
  refine ⟨hF, hS, hP, fun i hi => ?_, hrest⟩
  rw [List.mem_cons, not_or] at hi
  obtain ⟨hik, hics⟩ := hi
  rw [State.getC_setC, if_neg (Ne.symm hik)]
  exact hC i hics

/-- A write of all sixteen conditions changes no more than a list that names them all. -/
theorem Frame.setConds (h : Frame s u fs ss ps cs) (v : Vector Bool 16) {ks : List CReg} (hks : ∀ k, k ∈ ks) :
    Frame s (u.setConds v) fs ss ps ks := by
  obtain ⟨hF, hS, hP, _, hrest⟩ := h
  exact ⟨hF, hS, hP, fun k hk => absurd (hks k) hk, hrest⟩

end Frames

/-- Settles O20. -/
theorem nopOnlyAdvances : Obligations.NopOnlyAdvances := by
  obtain ⟨hnop, _⟩ := decoderFollowsTheOpcodeMap
  exact ⟨hnop, fun s => ⟨s.advance, rfl, State.advance_pc s, (Frame.refl s).advance⟩⟩

/-- Settles O21. -/
theorem haltEndsTheRun : Obligations.HaltEndsTheRun := by
  obtain ⟨_, hhalt, _⟩ := decoderFollowsTheOpcodeMap
  refine ⟨hhalt, fun s => ⟨s.finishRun, exec_halt s, rfl, rfl, rfl, ?_⟩⟩
  obtain ⟨hF, hS, hP, hC, himem, hdmem, _, hhost⟩ := Frame.refl s
  refine ⟨⟨hF, hS, hP, hC⟩, himem, hdmem, hhost, fun hie => ?_⟩
  rw [State.irq, State.finishRun_ie, State.finishRun_done, hie, Bool.true_or, Bool.and_true]

/-- Settles O22. -/
theorem clrallResetsTheRegisterFiles : Obligations.ClrallResetsTheRegisterFiles := by
  obtain ⟨_, _, hclrall, _⟩ := decoderFollowsTheOpcodeMap
  have hzero : feZero.val = 0 := by decide +kernel
  have hneutral : neutral.x.val = 0 ∧ neutral.y.val = 1 := by decide +kernel
  refine ⟨hclrall, fun s => ⟨s.clearRegs.advance, rfl, State.advance_pc _, fun i => ?_, fun i => ?_, fun i => ?_, ?_,
    ⟨fun i _ => ?_, fun i _ => ?_, fun i _ => ?_, fun i _ => ?_⟩, ?_⟩⟩
  · rw [State.getF_advance, State.getF_clearRegs, hzero]
  · rw [State.getS_advance, State.getS_clearRegs, BitVec.toNat_ofNat, Nat.zero_mod]
  · rw [State.getP_advance, State.getP_clearRegs]
    exact hneutral
  · exact State.getC_clearRegs s
  · rw [State.getF_advance, State.getF_clearRegs]
    exact (State.getF_powerOn [] [] i).symm
  · rw [State.getS_advance, State.getS_clearRegs]
    exact (State.getS_powerOn [] [] i).symm
  · rw [State.getP_advance, State.getP_clearRegs]
    exact (State.getP_powerOn [] [] i).symm
  · rw [State.getC_advance, State.getC_clearRegs]
    exact (State.getC_powerOn [] [] i).symm
  · obtain ⟨_, _, _, _, hrest⟩ := Frame.refl s
    exact hrest

/-- A command that writes one condition. -/
theorem retire_setC (s : State) (k : CReg) (b : Bool) :
    ∃ t, retire (s.setC k b) = .next t ∧ t.pc = s.pc + 4#13 ∧ t.getC k = b ∧ Frame s t [] [] [] [k] :=
  ⟨_, retire_eq _, rfl, State.getC_setC_same s k b, ((Frame.refl s).setC k b).advance⟩

/-- Settles O23: each command is `retire_setC` with its own value. -/
theorem conditionCommands : Obligations.ConditionCommands := by
  obtain ⟨_, _, _, hcset, hccpy, hcnot, hcand, hcor, hcxor, _⟩ := decoderFollowsTheOpcodeMap
  refine ⟨hcset, fun k imm s => ?cset, hccpy, fun k a s => ?ccpy, hcnot, fun k a s => ?cnot, hcand, fun k a b s => ?cand,
    hcor, fun k a b s => ?cor, hcxor, fun k a b s => ?cxor⟩
  case cset =>
    obtain ⟨t, ht, hpc, hk, hframe⟩ := retire_setC s k (condOfImm imm)
    have hbit : ∀ n < 2, (condOfImm n).toNat = n := by decide
    exact ⟨t, ht, hpc, fun himm => hk ▸ hbit imm himm, hframe⟩
  case ccpy => exact retire_setC s k (s.getC a)
  case cnot =>
    obtain ⟨t, ht, hpc, hk, hframe⟩ := retire_setC s k (!s.getC a)
    exact ⟨t, ht, hpc, by rw [hk]; cases s.getC a <;> rfl, hframe⟩
  case cand =>
    obtain ⟨t, ht, hpc, hk, hframe⟩ := retire_setC s k (s.getC a && s.getC b)
    exact ⟨t, ht, hpc, hk ▸ Bool.and_eq_true_iff, hframe⟩
  case cor =>
    obtain ⟨t, ht, hpc, hk, hframe⟩ := retire_setC s k (s.getC a || s.getC b)
    exact ⟨t, ht, hpc, hk ▸ Bool.or_eq_true_iff, hframe⟩
  case cxor =>
    obtain ⟨t, ht, hpc, hk, hframe⟩ := retire_setC s k (s.getC a ^^ s.getC b)
    exact ⟨t, ht, hpc, hk ▸ Bool.xor_iff_ne, hframe⟩

/-! ### The conditions as an integer (40_control R132, R133) -/

theorem bitsToNat_lt (bs : List Bool) : bitsToNat bs < 2 ^ bs.length := by
  induction bs with
  | nil => decide
  | cons b bs ih =>
    have hb := b.toNat_lt
    rw [bitsToNat, List.length_cons, pow_succ]
    omega

theorem testBit_bitsToNat (bs : List Bool) : ∀ i (h : i < bs.length), (bitsToNat bs).testBit i = bs[i] := by
  induction bs with
  | nil => exact fun _ h => absurd h (Nat.not_lt_zero _)
  | cons b bs ih =>
    intro i h
    rw [bitsToNat]
    cases i with
    | zero => cases b <;> simp [Nat.testBit_zero]
    | succ i =>
      have hdiv : (b.toNat + 2 * bitsToNat bs) / 2 = bitsToNat bs := by
        have hb := b.toNat_lt
        omega
      rw [Nat.testBit_succ, hdiv, List.getElem_cons_succ]
      exact ih i (Nat.lt_of_succ_lt_succ h)

theorem condsToNat_lt (cs : Vector Bool 16) : condsToNat cs < 2 ^ 16 := by
  have h := bitsToNat_lt cs.toList
  rwa [Vector.length_toList] at h

theorem testBit_condsToNat (cs : Vector Bool 16) (i : CReg) : (condsToNat cs).testBit i.val = cs[i.val] := by
  rw [condsToNat, testBit_bitsToNat _ _ (by rw [Vector.length_toList]; exact i.isLt), Vector.getElem_toList]

theorem getElem_condsOfSlot (v : Nat) (i : CReg) : (condsOfSlot v)[i.val] = v.testBit i.val := by
  rw [condsOfSlot, Vector.getElem_ofFn]

/-! ### Slots written and read (40_control R132, R133, 41_field R141, R142, 42_group R200, R201, 43_scalar R231, R232) -/

theorem storeFrame_setDmem {s : State} {m : Memory} {n : Slot} (h : SameDmemOutside s (s.setDmem m) n) :
    StoreFrame s (s.setDmem m) n := by
  obtain ⟨hF, hS, hP, hC, himem, _, hrun, hhost⟩ := Frame.refl s
  exact ⟨⟨hF, hS, hP, hC⟩, himem, h, hrun, hhost⟩

/-- A frame says nothing of the pc. -/
theorem StoreFrame.advance {s u : State} {n : Slot} (h : StoreFrame s u n) : StoreFrame s u.advance n := h

theorem storeFrame_writeSlot (s : State) (n : Slot) (v : Nat) : StoreFrame s (s.writeSlot n v) n :=
  storeFrame_setDmem (State.sameDmemOutside_writeSlot s n v)

/-- A slot written with an integer that its 32 bytes hold reads back as that integer. -/
theorem State.readSlot_writeSlot_of_lt {s : State} (hwf : s.dmem.wf Config.dmemBytes = true) (n : Slot) {v : Nat}
    (hv : v < 2 ^ 256) : (s.writeSlot n v).readSlot n = v := by
  rw [State.readSlot_writeSlot s n v hwf]
  exact Nat.mod_eq_of_lt (lt_of_lt_of_eq hv (by decide))

/-- Settles O24. -/
theorem conditionTransfers : Obligations.ConditionTransfers := by
  have hrows : ∀ r ∈ slotRows, EncodedBy r.mask r.fixed r.build :=
    fun r hr => encodedBy_of_mem (by simp [opcodeTable, hr])
  simp only [slotRows, List.forall_mem_cons] at hrows
  obtain ⟨_, _, _, _, _, _, hcLd, hcSt, _⟩ := hrows
  refine ⟨hcLd, fun slot s => ?load, hcSt, fun slot s hwf => ?store⟩
  case load =>
    have hall : ∀ i : CReg, i ∈ ([0, 1, 2, 3, 4, 5, 6, 7, 8, 9, 10, 11, 12, 13, 14, 15] : List CReg) := by decide
    refine ⟨_, retire_eq _, State.advance_pc _, fun i => ?_, ?_⟩
    · rw [State.getC_advance, State.getC_setConds, getElem_condsOfSlot]
    · exact ((Frame.refl s).setConds _ hall).advance
  case store =>
    have hback : (s.writeSlot slot (condsToNat s.cReg)).readSlot slot = condsToNat s.cReg :=
      State.readSlot_writeSlot_of_lt hwf slot ((condsToNat_lt _).trans (by decide))
    refine ⟨_, retire_eq _, ?_, fun i => ?_, ?_, (storeFrame_writeSlot s slot _).advance⟩
    · rw [State.advance_pc, State.writeSlot_pc]
    · rw [State.readSlot_advance, hback, testBit_condsToNat, State.getC]
    · rw [State.readSlot_advance, hback]
      exact condsToNat_lt _

/-! ### A point and its encoding (42_group R181, R182) -/

/-- p is odd, so that −x has the other parity, unless x is 0. -/
theorem parity_negp {x : Fe} (hx : x ≠ feZero) : parity (negp x) = !parity x := by
  have hlt : x.val < 2 ^ 255 - 19 := x.isLt
  have hpos : x.val ≠ 0 := fun h => hx (Fin.ext h)
  have hval : (negp x).val = 2 ^ 255 - 19 - x.val := by
    rw [negp_val]
    exact Nat.mod_eq_of_lt (show 2 ^ 255 - 19 - x.val < 2 ^ 255 - 19 by omega)
  rw [parity, parity, hval, Bool.eq_iff_iff, Bool.not_eq_true', beq_iff_eq, beq_eq_false_iff_ne]
  omega

theorem negp_negp (x : Fe) : negp (negp x) = x := toZ_injective (by rw [toZ_negp, toZ_negp, neg_neg])

/-- Two roots of one square differ by sign, so that the parity of the one picks it from the other. -/
theorem withParity_of_mul_self_eq {r x : Fe} (h : toZ r * toZ r = toZ x * toZ x) : withParity (parity x) r = x := by
  have : Fact Config.p.Prime := ⟨p_prime⟩
  rcases mul_self_eq_mul_self_iff.1 h with heq | hneg
  · rw [toZ_injective heq, withParity, if_pos rfl]
  · obtain rfl : r = negp x := toZ_injective (hneg.trans (toZ_negp x).symm)
    by_cases hx : x = feZero
    · have hself : negp x = x := toZ_injective (by rw [toZ_negp, hx, toZ_feZero, neg_zero])
      rw [hself, withParity, if_pos rfl]
    · rw [withParity, parity_negp hx, if_neg (by simp), negp_negp]

theorem encodePoint_lt (P : Point) : encodePoint P < 2 ^ 256 := by
  have hy : P.y.val < 2 ^ 255 - 19 := P.y.isLt
  have hx := (parity P.x).toNat_lt
  rw [encodePoint]
  omega

theorem compressedY_encodePoint (P : Point) : compressedY (encodePoint P) = P.y := by
  have hy : P.y.val < 2 ^ 255 - 19 := P.y.isLt
  have hlow : encodePoint P % 2 ^ 255 = P.y.val := by
    rw [encodePoint]
    omega
  rw [compressedY, hlow, Fe.ofNat_val]

theorem compressedSign_encodePoint (P : Point) : compressedSign (encodePoint P) = parity P.x := by
  have hy : P.y.val < 2 ^ 255 - 19 := P.y.isLt
  rw [compressedSign, encodePoint, Nat.add_comm, Nat.mul_comm,
    Nat.testBit_two_pow_mul_add _ (show P.y.val < 2 ^ 255 by omega)]
  cases parity P.x <;> rfl

/-- Decoding an encoded point of E finds its x among the roots of (y² − 1)/(d·y² + 1). -/
theorem decodePoint_encodePoint {P : Point} (hP : OnE P) : decodePoint (encodePoint P) = (P, true) := by
  have : Fact Config.p.Prime := ⟨p_prime⟩
  have hden := decode_denominator_ne_zero P.y
  have hcurve : toZ P.x * toZ P.x * toZ (addp (mulp dCoeff (mulp P.y P.y)) feOne) =
      toZ (subp (mulp P.y P.y) feOne) := by
    have he := (onCurve_iff _ _).1 hP
    simp only [toZ_addp, toZ_subp, toZ_mulp, toZ_feOne, toZ_dCoeff]
    linear_combination -he
  have hden' := mt (toZ_eq_zero_iff _).1 hden
  have hroot : HasRoot (divp (subp (mulp P.y P.y) feOne) (addp (mulp dCoeff (mulp P.y P.y)) feOne)) := by
    refine ⟨P.x, toZ_injective (mul_right_cancel₀ hden' ?_)⟩
    rw [toZ_mulp, hcurve, toZ_divp_mul _ hden]
  obtain ⟨hok, hsq⟩ := sqrtRatio_of_hasRoot hden hroot
  have hx := withParity_of_mul_self_eq (mul_right_cancel₀ hden' (hsq.trans hcurve.symm))
  simp only [decodePoint, compressedY_encodePoint, compressedSign_encodePoint]
  rw [if_pos hok, hx]

/-! ### Loads of what was stored -/

/-- What the load after a store finds in the slot. -/
theorem readSlot_of_store {s t u : State} {n : Slot} {v : Nat} (hwf : s.dmem.wf Config.dmemBytes = true)
    (ht : retire (s.writeSlot n v) = .next t) (hu : u.dmem = t.dmem) (hv : v < 2 ^ 256) : u.readSlot n = v := by
  obtain rfl := retire_next.1 ht
  rw [State.readSlot, hu, ← State.readSlot, State.readSlot_advance, State.readSlot_writeSlot_of_lt hwf n hv]

theorem feOfSlot_val (a : Fe) : feOfSlot a.val = a := by
  have ha : a.val < 2 ^ 255 - 19 := a.isLt
  have hlow : a.val % 2 ^ 255 = a.val := Nat.mod_eq_of_lt (by omega)
  rw [feOfSlot, hlow, Fe.ofNat_val]

/-- Settles O48: the slot holds the stored integer, and each kind of value is read back from its own. -/
theorem storesThenLoadsRestore : Obligations.StoresThenLoadsRestore := by
  intro slot s t u hwf hu
  refine ⟨fun ht => ?conditions, fun d e ht => ?field, fun d e ht => ?scalar, fun d e k hP ht => ?point⟩
  case conditions =>
    have hslot := readSlot_of_store hwf ht hu ((condsToNat_lt s.cReg).trans (by decide))
    refine ⟨_, retire_eq _, fun i => ?_⟩
    rw [State.getC_advance, State.getC_setConds, getElem_condsOfSlot, hslot, testBit_condsToNat, State.getC]
  case field =>
    have hval : (s.getF d).val < 2 ^ 255 - 19 := (s.getF d).isLt
    have hslot := readSlot_of_store hwf ht hu (show (s.getF d).val < 2 ^ 256 by omega)
    refine ⟨_, retire_eq _, ?_⟩
    rw [State.getF_advance, State.getF_setF_same, hslot, feOfSlot_val]
  case scalar =>
    have hslot := readSlot_of_store hwf ht hu (s.getS d).isLt
    refine ⟨_, retire_eq _, ?_⟩
    rw [State.getS_advance, State.getS_setS_same, hslot, scalarOfSlot, BitVec.ofNat_toNat, BitVec.setWidth_eq]
  case point =>
    have hslot := readSlot_of_store hwf ht hu (encodePoint_lt (s.getP d))
    have hdec : decodePoint (u.readSlot slot) = (s.getP d, true) := by rw [hslot, decodePoint_encodePoint hP]
    refine ⟨_, retire_eq _, ?_, ?_⟩
    · rw [State.getP_advance, State.getP_setC, State.getP_setP_same, hdec]
    · rw [State.getC_advance, State.getC_setC_same, hdec]

end Sys2Proof.Machine

/-! The field commands (41_field R140 to R159): the moves and the ring operations, the powers, the square root of a ratio
by the definition of R153 and by the algorithm of R155, the predicates, the selects and the slot transfers. -/

namespace Sys2Proof.Machine

/-! ### Rows and frames (30_encoding R95, 40_control R120) -/

/-- The field rows' encodings, in the order of their opcodes. -/
theorem fieldRows_encodedBy : fieldRows.Forall fun r => EncodedBy r.mask r.fixed r.build :=
  List.forall_iff_forall_mem.2 fun r hr => encodedBy_of_mem (by simp [opcodeTable, hr])

/-- The slot rows' encodings, in the order of their opcodes. -/
theorem slotRows_encodedBy : slotRows.Forall fun r => EncodedBy r.mask r.fixed r.build :=
  List.forall_iff_forall_mem.2 fun r hr => encodedBy_of_mem (by simp [opcodeTable, hr])

/-- A frame that names more registers says less. -/
theorem Frame.mono {s u : State} {fs gs : List FReg} {ss : List SReg} {ps : List PReg} {cs : List CReg}
    (h : Frame s u fs ss ps cs) (hsub : fs ⊆ gs) : Frame s u gs ss ps cs := by
  obtain ⟨hF, hrest⟩ := h
  exact ⟨fun i hi => hF i fun hmem => hi (hsub hmem), hrest⟩

theorem Frame.setF {s u : State} {fs : List FReg} {ss : List SReg} {ps : List PReg} {cs : List CReg}
    (h : Frame s u fs ss ps cs) (d : FReg) (v : Fe) : Frame s (u.setF d v) (d :: fs) ss ps cs := by
  obtain ⟨hF, hrest⟩ := h
  refine ⟨fun i hi => ?_, hrest⟩
  rw [List.mem_cons, not_or] at hi
  obtain ⟨hid, hifs⟩ := hi
  rw [State.getF_setF_other u d i v (Ne.symm hid)]
  exact hF i hifs

/-- A command that writes one field register. -/
theorem retire_setF (s : State) (d : FReg) (v : Fe) :
    ∃ t, retire (s.setF d v) = .next t ∧ t.pc = s.pc + 4#13 ∧ t.getF d = v ∧ Frame s t [d] [] [] [] :=
  ⟨_, retire_eq _, rfl, State.getF_setF_same s d v, ((Frame.refl s).setF d v).advance⟩

/-! ### Zero -/

theorem feZero_val : feZero.val = 0 := by decide +kernel

theorem eq_feZero_iff (a : Fe) : a = feZero ↔ a.val = 0 := by rw [Fin.ext_iff, feZero_val]

@[simp] theorem feZero_mulp (a : Fe) : mulp feZero a = feZero :=
  toZ_injective (by rw [toZ_mulp, toZ_feZero, zero_mul])

@[simp] theorem mulp_feZero (a : Fe) : mulp a feZero = feZero :=
  toZ_injective (by rw [toZ_mulp, toZ_feZero, mul_zero])

@[simp] theorem negp_eq_feZero_iff (a : Fe) : negp a = feZero ↔ a = feZero := by
  rw [← toZ_eq_zero_iff, toZ_negp, neg_eq_zero, toZ_eq_zero_iff]

/-! ### The square root of a ratio (41_field R153) -/

/-- The parity as an integer (00_scope R15). -/
theorem parity_toNat (a : Fe) : (parity a).toNat = a.val % 2 := by
  rw [parity]
  rcases Nat.mod_two_eq_zero_or_one a.val with h | h <;> rw [h] <;> rfl

/-- The even one of a and −a is even; of 0, it is 0. -/
theorem parity_withParity_false (a : Fe) : parity (withParity false a) = false := by
  unfold withParity
  split
  case isTrue heven => exact heven
  case isFalse hodd =>
    have ha : a ≠ feZero := fun h => hodd (h ▸ by decide +kernel)
    rw [parity_negp ha, Bool.eq_true_of_not_eq_false hodd, Bool.not_true]

/-- Two roots of one square give the same even root. -/
theorem withParity_false_eq_of_mul_self_eq {a b : Fe} (h : toZ a * toZ a = toZ b * toZ b) :
    withParity false a = withParity false b := by
  have hself := withParity_of_mul_self_eq (h.trans (toZ_withParity_mul_self false b).symm)
  rwa [parity_withParity_false] at hself

/-- The ratio num/den has the root x when x² times den is num. -/
theorem mulp_self_eq_divp_iff {num den : Fe} (hden : den ≠ feZero) (x : Fe) :
    mulp x x = divp num den ↔ toZ x * toZ x * toZ den = toZ num := by
  have : Fact Config.p.Prime := ⟨p_prime⟩
  rw [← toZ_inj, toZ_mulp, ← toZ_divp_mul num hden, mul_left_inj' (mt (toZ_eq_zero_iff den).1 hden)]

/-- `sqrt_ratio` of a zero denominator: (0, whether the numerator is 0). -/
theorem sqrtRatio_feZero (num : Fe) : sqrtRatio num feZero = (feZero, decide (num = feZero)) := if_pos rfl

/-- `sqrt_ratio` of a ratio with the root x: the even one of x and −x, whichever root the model computed. -/
theorem sqrtRatio_of_root {num den x : Fe} (hden : den ≠ feZero) (hx : mulp x x = divp num den) :
    sqrtRatio num den = (withParity false x, true) := by
  have hroot : HasRoot (divp num den) := ⟨x, hx⟩
  have hsq : isSquare (divp num den) = true := (isSquareIsHavingARoot _).2 hroot
  have hsame : withParity false (rootOf (divp num den)) = withParity false x :=
    withParity_false_eq_of_mul_self_eq (by rw [← toZ_mulp, rootOf_mul_self hroot, ← hx, toZ_mulp])
  rw [sqrtRatio, if_neg hden, if_pos hsq, hsame]

/-- `sqrt_ratio` of a ratio without a root. -/
theorem sqrtRatio_of_not_hasRoot {num den : Fe} (hden : den ≠ feZero) (h : ¬ HasRoot (divp num den)) :
    sqrtRatio num den = (feZero, false) := by
  rw [sqrtRatio, if_neg hden, if_neg (mt (isSquareIsHavingARoot _).1 h)]

/-- The model's `sqrt_ratio` is that of 41_field R153. -/
theorem isSqrtRatio_sqrtRatio (num den : Fe) : IsSqrtRatio num den (sqrtRatio num den).1 (sqrtRatio num den).2 := by
  refine ⟨?zero, fun hden hroot => ?root, fun hden hno => ?noRoot⟩
  case zero =>
    rintro rfl
    rw [sqrtRatio_feZero]
    exact ⟨rfl, decide_eq_true_iff⟩
  case root =>
    obtain ⟨x, hx⟩ := hroot
    rw [sqrtRatio_of_root hden hx]
    refine ⟨rfl, ?_, ?_⟩
    · rw [← hx, ← toZ_inj, toZ_mulp, toZ_mulp, toZ_withParity_mul_self]
    · rw [← parity_toNat, parity_withParity_false, Bool.toNat_false]
  case noRoot =>
    rw [sqrtRatio_of_not_hasRoot hden hno]
    exact ⟨rfl, rfl⟩

/-- Settles O28: the pair written is `sqrtRatio`'s. -/
theorem fieldSquareRootCommand : Obligations.FieldSquareRootCommand := by
  obtain ⟨_, _, _, _, _, _, _, _, _, _, hsqrtr, _⟩ := fieldRows_encodedBy
  refine ⟨hsqrtr, fun d k a b s => ⟨_, retire_eq _, rfl, ?_, (((Frame.refl s).setF d _).setC k _).advance⟩⟩
  rw [State.getF_advance, State.getF_setC, State.getF_setF_same, State.getC_advance, State.getC_setC_same]
  exact isSqrtRatio_sqrtRatio _ _

/-! ### The two-candidate algorithm (41_field R155) -/

/-- The first candidate r = v·u³·(v·u⁷)^((p−5)/8). -/
def firstCandidate (v u : Fe) : Fe :=
  let u3 := mulp u (mulp u u)
  mulp (mulp v u3) (powp (mulp v (mulp u (mulp u3 u3))) ((Config.p - 5) / 8))

theorem sqrtRatioTwoCandidates_eq (v u : Fe) : sqrtRatioTwoCandidates v u =
    if mulp u (mulp (firstCandidate v u) (firstCandidate v u)) = v then (withParity false (firstCandidate v u), true)
    else if mulp u (mulp (firstCandidate v u) (firstCandidate v u)) = negp v then
      (withParity false (mulp (firstCandidate v u) (Fe.ofNat Config.sqrtM1)), true)
    else (feZero, false) := rfl

/-- u·r² is v times a power of v·u⁷ that is 1 or −1 where v·u⁷ is a square. -/
theorem firstCandidate_check (v u : Fe) : toZ u * (toZ (firstCandidate v u) * toZ (firstCandidate v u)) =
    toZ v * (toZ v * toZ u ^ 7) ^ ((Config.p - 1) / 4) := by
  have he : (Config.p - 1) / 4 = (Config.p - 5) / 8 + (Config.p - 5) / 8 + 1 := by decide +kernel
  have hw : toZ u * (toZ u * (toZ u * toZ u) * (toZ u * (toZ u * toZ u))) = toZ u ^ 7 := by ring
  simp only [firstCandidate, toZ_mulp, toZ_powp]
  rw [he, hw, pow_succ, pow_add]
  ring

/-- Where v/u is a square other than 0, so is v·u⁷ = (v/u)·u⁸, and u·r² is v or −v. -/
theorem firstCandidate_check_of_hasRoot {v u : Fe} (hu : u ≠ feZero) (hv : v ≠ feZero) (h : HasRoot (divp v u)) :
    mulp u (mulp (firstCandidate v u) (firstCandidate v u)) = v ∨
    mulp u (mulp (firstCandidate v u) (firstCandidate v u)) = negp v := by
  have : Fact Config.p.Prime := ⟨p_prime⟩
  obtain ⟨x, hx⟩ := h
  rw [mulp_self_eq_divp_iff hu] at hx
  obtain ⟨y, hy⟩ := toZ_surjective (toZ x * toZ u ^ 4)
  have hsq : toZ (mulp y y) = toZ v * toZ u ^ 7 := by
    rw [toZ_mulp, hy]
    linear_combination toZ u ^ 7 * hx
  have hne : mulp y y ≠ feZero := by
    rw [Ne, ← toZ_eq_zero_iff] at hu hv ⊢
    rw [hsq]
    exact mul_ne_zero hv (pow_ne_zero 7 hu)
  have hquarter := powp_quarter_of_hasRoot hne ⟨y, rfl⟩
  rw [← toZ_inj, ← toZ_inj, toZ_mulp, toZ_mulp, toZ_negp, firstCandidate_check, ← hsq]
  rcases hquarter with h1 | h1
  · exact .inl (by rw [h1, mul_one])
  · exact .inr (by rw [h1, mul_neg_one])

/-- A zero denominator fails the first check unless the numerator is 0 too, and then the second. -/
theorem sqrtRatioTwoCandidates_feZero (v : Fe) : sqrtRatioTwoCandidates v feZero = (feZero, decide (v = feZero)) := by
  have hr : firstCandidate v feZero = feZero := by simp [firstCandidate]
  rw [sqrtRatioTwoCandidates_eq, hr, feZero_mulp]
  by_cases hv : v = feZero
  · subst hv
    decide +kernel
  · have hneg : feZero ≠ negp v := fun h => hv ((negp_eq_feZero_iff v).1 h.symm)
    rw [if_neg (Ne.symm hv), if_neg hneg, decide_eq_false hv]

/-- Settles O29: each check that passes exhibits a root of v/u, and where v/u has one, one of the two passes. -/
theorem twoCandidateRootAgrees : Obligations.TwoCandidateRootAgrees := by
  intro v u
  by_cases hu : u = feZero
  · rw [hu, sqrtRatioTwoCandidates_feZero, sqrtRatio_feZero]
  rw [sqrtRatioTwoCandidates_eq]
  split
  case isTrue hchk =>
    refine (sqrtRatio_of_root hu ((mulp_self_eq_divp_iff hu _).2 ?_)).symm
    rw [← toZ_inj, toZ_mulp, toZ_mulp] at hchk
    rw [mul_comm, hchk]
  case isFalse hchk =>
    split
    case isTrue hneg =>
      refine (sqrtRatio_of_root hu ((mulp_self_eq_divp_iff hu _).2 ?_)).symm
      rw [← toZ_inj, toZ_mulp, toZ_mulp, toZ_negp] at hneg
      rw [toZ_mulp]
      linear_combination toZ u * toZ (firstCandidate v u) ^ 2 * toZ_sqrtM1_mul_self - hneg
    case isFalse hneg =>
      refine (sqrtRatio_of_not_hasRoot hu fun hroot => ?_).symm
      have hv : v ≠ feZero := by
        rintro rfl
        refine hchk (toZ_injective ?_)
        rw [toZ_mulp, toZ_mulp, firstCandidate_check, toZ_feZero, zero_mul]
      exact (firstCandidate_check_of_hasRoot hu hv hroot).elim hchk hneg

/-! ### The moves and the ring operations (41_field R143 to R150) -/

/-- Settles O25: an immediate of 20 bits is below p. -/
theorem fieldMoves : Obligations.FieldMoves := by
  obtain ⟨hmov, hldi, _⟩ := fieldRows_encodedBy
  refine ⟨hmov, fun d a s => retire_setF s d (s.getF a), hldi, fun d imm s => ?_⟩
  obtain ⟨t, ht, hpc, hd, hframe⟩ := retire_setF s d (feOfImm imm)
  have hp : 2 ^ 20 < Config.p := by decide
  exact ⟨t, ht, hpc, fun himm => by rw [hd]; exact Nat.mod_eq_of_lt (himm.trans hp), hframe⟩

/-- The difference is taken by adding p − b, which is −b modulo p. -/
theorem subp_val_int (a b : Fe) : ((subp a b).val : Int) = ((a.val : Int) - b.val) % Config.p := by
  rw [subp_val, Int.natCast_mod, Nat.cast_add, Nat.cast_sub b.isLt.le, add_sub_left_comm, Int.add_emod_left]

theorem negp_eq_subp (a : Fe) : negp a = subp feZero a :=
  toZ_injective (by rw [toZ_negp, toZ_subp, toZ_feZero, zero_sub])

theorem negp_val_int (a : Fe) : ((negp a).val : Int) = -(a.val : Int) % Config.p := by
  rw [negp_eq_subp, subp_val_int, feZero_val, Nat.cast_zero, zero_sub]

/-- Settles O26: each command is `retire_setF` with its own value. -/
theorem fieldRingCommands : Obligations.FieldRingCommands := by
  obtain ⟨_, _, hadd, hsub, hneg, hmul, hsq, hsq2, _⟩ := fieldRows_encodedBy
  refine ⟨hadd, fun d a b s => ?add, hsub, fun d a b s => ?sub, hneg, fun d a s => ?neg, hmul, fun d a b s => ?mul,
    hsq, fun d a s => ?sq, hsq2, fun d a s => ?sq2⟩
  case add =>
    obtain ⟨t, ht, hpc, hd, hframe⟩ := retire_setF s d (addp (s.getF a) (s.getF b))
    exact ⟨t, ht, hpc, by rw [hd, addp_val], hframe⟩
  case sub =>
    obtain ⟨t, ht, hpc, hd, hframe⟩ := retire_setF s d (subp (s.getF a) (s.getF b))
    exact ⟨t, ht, hpc, by rw [hd, subp_val_int], hframe⟩
  case neg =>
    obtain ⟨t, ht, hpc, hd, hframe⟩ := retire_setF s d (negp (s.getF a))
    exact ⟨t, ht, hpc, by rw [hd, negp_val_int], hframe⟩
  case mul =>
    obtain ⟨t, ht, hpc, hd, hframe⟩ := retire_setF s d (mulp (s.getF a) (s.getF b))
    exact ⟨t, ht, hpc, by rw [hd, mulp_val], hframe⟩
  case sq =>
    obtain ⟨t, ht, hpc, hd, hframe⟩ := retire_setF s d (mulp (s.getF a) (s.getF a))
    exact ⟨t, ht, hpc, by rw [hd, mulp_val, pow_two], hframe⟩
  case sq2 =>
    obtain ⟨t, ht, hpc, hd, hframe⟩ := retire_setF s d (mulp (Fe.ofNat 2) (mulp (s.getF a) (s.getF a)))
    exact ⟨t, ht, hpc, by rw [hd, mulp_val, Fe.val_ofNat, mulp_val, ← Nat.mul_mod, pow_two], hframe⟩

/-! ### The powers (41_field R151, R152) -/

/-- Fermat's inverse is the inverse of every element other than 0. -/
theorem mulp_invp_self {a : Fe} (ha : a ≠ feZero) : mulp a (invp a) = feOne := by
  have : Fact Config.p.Prime := ⟨p_prime⟩
  have hdiv : toZ (divp a a) * toZ a = toZ feOne * toZ a := by rw [toZ_divp_mul a ha, toZ_feOne, one_mul]
  exact toZ_injective (mul_right_cancel₀ (mt (toZ_eq_zero_iff a).1 ha) hdiv)

/-- Settles O27: F[d] is the power, and F[a]·F[a]^(p−2) is 1 by Fermat. -/
theorem fieldPowerCommands : Obligations.FieldPowerCommands := by
  obtain ⟨_, _, _, _, _, _, _, _, hinv, hpow, _⟩ := fieldRows_encodedBy
  refine ⟨by decide +kernel, hinv, fun d a s => ?inv, hpow, fun d a s => ?pow⟩
  case inv =>
    obtain ⟨t, ht, hpc, hd, hframe⟩ := retire_setF s d (invp (s.getF a))
    refine ⟨t, ht, hpc, by rw [hd, invp, powp_val], fun hne => ?_, hframe⟩
    have hone : feOne.val = 1 := by decide +kernel
    rw [hd, ← mulp_val, mulp_invp_self (mt (eq_feZero_iff _).1 hne), hone]
  case pow =>
    obtain ⟨t, ht, hpc, hd, hframe⟩ := retire_setF s d (powp (s.getF a) ((Config.p - 5) / 8))
    exact ⟨t, ht, hpc, by rw [hd, powp_val], hframe⟩

/-! ### The predicates and the selects (41_field R156 to R159) -/

theorem isZero_iff (a : Fe) : isZero a = true ↔ a.val = 0 := by
  rw [isZero, decide_eq_true_iff, eq_feZero_iff]

/-- Settles O31: each command is `retire_setC` with its own bit. -/
theorem fieldPredicates : Obligations.FieldPredicates := by
  obtain ⟨_, _, _, _, _, _, _, _, _, _, _, hisneg, hiszero, _⟩ := fieldRows_encodedBy
  refine ⟨hisneg, fun k a s => ?isneg, hiszero, fun k a s => ?iszero⟩
  case isneg =>
    obtain ⟨t, ht, hpc, hk, hframe⟩ := retire_setC s k (isNegative (s.getF a))
    exact ⟨t, ht, hpc, by rw [hk, isNegative, parity_toNat], hframe⟩
  case iszero =>
    obtain ⟨t, ht, hpc, hk, hframe⟩ := retire_setC s k (isZero (s.getF a))
    exact ⟨t, ht, hpc, by rw [hk, isZero_iff], hframe⟩

/-- What two writes leave in the register written first: the second write wins where they meet. -/
theorem State.getF_setF_setF_swap (s : State) (d a : FReg) :
    ((s.setF d (s.getF a)).setF a (s.getF d)).getF d = s.getF a := by
  rw [State.getF_setF, State.getF_setF_same]
  split
  case isTrue had => rw [had]
  case isFalse => rfl

/-- Settles O32: with C[k] = 0 both commands retire the state as it is. -/
theorem fieldSelects : Obligations.FieldSelects := by
  obtain ⟨_, _, _, _, _, _, _, _, _, _, _, _, _, hcmov, hcswap⟩ := fieldRows_encodedBy
  refine ⟨hcmov, fun d a k s => ?cmov, hcswap, fun d a k s => ?cswap⟩
  case cmov =>
    refine ⟨_, retire_eq _, ?_⟩
    split
    case isTrue => exact ⟨rfl, State.getF_setF_same s d _, ((Frame.refl s).setF d _).advance⟩
    case isFalse => exact ⟨rfl, rfl, ((Frame.refl s).mono (List.nil_subset _)).advance⟩
  case cswap =>
    refine ⟨_, retire_eq _, ?_⟩
    split
    case isTrue =>
      have hswap : [a, d] ⊆ [d, a] := List.Perm.subset (List.Perm.swap d a [])
      exact ⟨rfl, State.getF_setF_setF_swap s d a, State.getF_setF_same _ a _,
        ((((Frame.refl s).setF d _).setF a _).mono hswap).advance⟩
    case isFalse => exact ⟨rfl, rfl, rfl, ((Frame.refl s).mono (List.nil_subset _)).advance⟩

/-! ### The slot transfers (41_field R141, R142) -/

/-- Settles O33: the canonical encoding is the integer itself, which is below 2^255. -/
theorem fieldSlotTransfers : Obligations.FieldSlotTransfers := by
  obtain ⟨hfeLd, hfeSt, _⟩ := slotRows_encodedBy
  refine ⟨hfeLd, fun d slot s => ?load, hfeSt, fun slot d s hwf => ?store⟩
  case load =>
    obtain ⟨t, ht, hpc, hd, hframe⟩ := retire_setF s d (feOfSlot (s.readSlot slot))
    exact ⟨t, ht, hpc, by rw [hd, feOfSlot, Fe.val_ofNat], hframe⟩
  case store =>
    have hlt : (s.getF d).val < 2 ^ 255 := (s.getF d).isLt.trans (by decide)
    have hback := State.readSlot_writeSlot_of_lt hwf slot (hlt.trans (by decide))
    refine ⟨_, retire_eq _, ?_, ?_, ?_, (storeFrame_writeSlot s slot _).advance⟩
    · rw [State.advance_pc, State.writeSlot_pc]
    · rw [State.readSlot_advance, hback]
    · rw [State.readSlot_advance, hback, Nat.testBit_lt_two_pow hlt]

end Sys2Proof.Machine

/-! The group E (42_group R184 to R187): the addition law is commutative and associative with O neutral and −P inverse,
and doubling and adding computes repeated addition. The laws are shown of coordinate pairs in a field and brought to
the model's points through ZMod p. -/

namespace Sys2Proof.Machine

/-! ### The addition law on coordinate pairs -/

section EdwardsPairs

variable {K : Type} [Field K] {d i : K} {P Q R S T L M : K × K}

/-- The curve's equation (42_group R183). -/
def EdwardsOn (d : K) (P : K × K) : Prop :=
  -(P.1 * P.1) + P.2 * P.2 = 1 + d * (P.1 * P.1 * (P.2 * P.2))

/-- The product t = d·x1·x2·y1·y2 of the addition law (42_group R186). -/
def edwardsProduct (d : K) (P Q : K × K) : K := d * (P.1 * Q.1 * (P.2 * Q.2))

/-- S is the sum of P and Q by the addition law, whose denominators are not 0 (42_group R186). -/
structure EdwardsSum (d : K) (P Q S : K × K) : Prop where
  /-- The denominator of x is not 0. -/
  plus : 1 + edwardsProduct d P Q ≠ 0
  /-- The denominator of y is not 0. -/
  minus : 1 - edwardsProduct d P Q ≠ 0
  /-- The defining equation of x. -/
  x : S.1 * (1 + edwardsProduct d P Q) = P.1 * Q.2 + P.2 * Q.1
  /-- The defining equation of y. -/
  y : S.2 * (1 - edwardsProduct d P Q) = P.2 * Q.2 + P.1 * Q.1

theorem edwardsProduct_comm (d : K) (P Q : K × K) : edwardsProduct d P Q = edwardsProduct d Q P := by
  rw [edwardsProduct, edwardsProduct, mul_comm P.1, mul_comm P.2]

theorem EdwardsSum.comm (h : EdwardsSum d P Q S) : EdwardsSum d Q P S := by
  obtain ⟨hplus, hminus, hx, hy⟩ := h
  rw [edwardsProduct_comm] at hplus hminus hx hy
  exact ⟨hplus, hminus, by linear_combination hx, by linear_combination hy⟩

/-- The sum is what its two defining equations say. -/
theorem EdwardsSum.unique (h : EdwardsSum d P Q S) (hx : T.1 * (1 + edwardsProduct d P Q) = P.1 * Q.2 + P.2 * Q.1)
    (hy : T.2 * (1 - edwardsProduct d P Q) = P.2 * Q.2 + P.1 * Q.1) : S = T :=
  Prod.ext (mul_right_cancel₀ h.plus (h.x.trans hx.symm)) (mul_right_cancel₀ h.minus (h.y.trans hy.symm))

/-- The translation by (i, 0), a point of order 4 where i² = −1. It exchanges the roles of x and y. -/
def quarterTurn (i : K) (P : K × K) : K × K := (i * P.2, i * P.1)

theorem EdwardsOn.quarterTurn (hi : i * i = -1) (h : EdwardsOn d P) : EdwardsOn d (quarterTurn i P) := by
  unfold EdwardsOn Machine.quarterTurn at *
  linear_combination h + (P.1 * P.1 - P.2 * P.2 - d * P.1 * P.1 * P.2 * P.2 * (i * i - 1)) * hi

/-- A translated summand translates the sum. -/
theorem EdwardsSum.quarterTurn (hi : i * i = -1) (h : EdwardsSum d P Q S) :
    EdwardsSum d P (quarterTurn i Q) (quarterTurn i S) := by
  obtain ⟨hplus, hminus, hx, hy⟩ := h
  have ht : edwardsProduct d P (Machine.quarterTurn i Q) = -edwardsProduct d P Q := by
    unfold edwardsProduct Machine.quarterTurn
    linear_combination d * P.1 * P.2 * Q.1 * Q.2 * hi
  refine ⟨?_, ?_, ?_, ?_⟩ <;> rw [ht]
  · rwa [← sub_eq_add_neg]
  · rwa [sub_neg_eq_add]
  · unfold Machine.quarterTurn
    linear_combination i * hy
  · unfold Machine.quarterTurn
    linear_combination i * hx

/-- The numerator of the x of (P + Q) + R, the denominators of P + Q cleared. -/
def tripleNum (d : K) (P Q R : K × K) : K :=
  (P.1 * Q.2 + P.2 * Q.1) * (1 - edwardsProduct d P Q) * R.2 +
  (P.2 * Q.2 + P.1 * Q.1) * (1 + edwardsProduct d P Q) * R.1

/-- The denominator of the x of (P + Q) + R, the denominators of P + Q cleared. -/
def tripleDen (d : K) (P Q R : K × K) : K :=
  1 - edwardsProduct d P Q ^ 2 + d * ((P.1 * Q.2 + P.2 * Q.1) * (P.2 * Q.2 + P.1 * Q.1) * (R.1 * R.2))

theorem EdwardsSum.tripleDen_eq (h : EdwardsSum d P Q S) : tripleDen d P Q R =
    (1 + edwardsProduct d S R) * ((1 + edwardsProduct d P Q) * (1 - edwardsProduct d P Q)) := by
  rw [tripleDen, ← h.x, ← h.y, edwardsProduct.eq_def d S R]
  ring

theorem EdwardsSum.tripleDen_ne_zero (h : EdwardsSum d P Q S) (hL : EdwardsSum d S R L) : tripleDen d P Q R ≠ 0 := by
  rw [h.tripleDen_eq]
  exact mul_ne_zero hL.plus (mul_ne_zero h.plus h.minus)

theorem EdwardsSum.mul_tripleDen (h : EdwardsSum d P Q S) (hL : EdwardsSum d S R L) :
    L.1 * tripleDen d P Q R = tripleNum d P Q R := by
  rw [h.tripleDen_eq, tripleNum, ← h.x, ← h.y]
  linear_combination (1 + edwardsProduct d P Q) * (1 - edwardsProduct d P Q) * hL.x

/-- The x of (P + Q) + R and of (Q + R) + P agree as fractions: their difference is d·x2·y2 times a combination of the
three curve equations with the weights 1 and d·x²·y², one line for each pair of equations. -/
theorem tripleNum_mul_tripleDen (hP : EdwardsOn d P) (hQ : EdwardsOn d Q) (hR : EdwardsOn d R) :
    tripleNum d P Q R * tripleDen d Q R P = tripleNum d Q R P * tripleDen d P Q R := by
  obtain ⟨x1, y1⟩ := P
  obtain ⟨x2, y2⟩ := Q
  obtain ⟨x3, y3⟩ := R
  simp only [EdwardsOn, tripleNum, tripleDen, edwardsProduct] at hP hQ hR ⊢
  linear_combination d * x2 * y2 *
    (x3 * y3 * (x3 * (y1 * y2 - x1 * x2) + y3 * (y1 * x2 - x1 * y2)) * (d * x1 ^ 2 * y1 ^ 2 * hQ - hP) +
      x2 * y2 * (x2 * (y1 * y3 + x1 * x3) + y2 * (x1 * y3 + y1 * x3)) *
        (d * x3 ^ 2 * y3 ^ 2 * hP - d * x1 ^ 2 * y1 ^ 2 * hR) +
      x1 * y1 * (x1 * (y2 * y3 - x2 * x3) + y1 * (x2 * y3 - y2 * x3)) * (hR - d * x3 ^ 2 * y3 ^ 2 * hQ))

theorem EdwardsSum.assoc_x (hP : EdwardsOn d P) (hQ : EdwardsOn d Q) (hR : EdwardsOn d R) (hS : EdwardsSum d P Q S)
    (hL : EdwardsSum d S R L) (hT : EdwardsSum d Q R T) (hM : EdwardsSum d P T M) : L.1 = M.1 := by
  apply mul_right_cancel₀ (mul_ne_zero (hS.tripleDen_ne_zero hL) (hT.tripleDen_ne_zero hM.comm))
  calc L.1 * (tripleDen d P Q R * tripleDen d Q R P)
      = tripleNum d P Q R * tripleDen d Q R P := by rw [← mul_assoc, hS.mul_tripleDen hL]
    _ = tripleNum d Q R P * tripleDen d P Q R := tripleNum_mul_tripleDen hP hQ hR
    _ = M.1 * (tripleDen d P Q R * tripleDen d Q R P) := by
      rw [← hT.mul_tripleDen hM.comm, mul_assoc, mul_comm (tripleDen d Q R P)]

/-- The addition law is associative: the x agree, and the y are the x of the sums with R translated by (i, 0). -/
theorem EdwardsSum.assoc (hi : i * i = -1) (hP : EdwardsOn d P) (hQ : EdwardsOn d Q) (hR : EdwardsOn d R)
    (hS : EdwardsSum d P Q S) (hL : EdwardsSum d S R L) (hT : EdwardsSum d Q R T) (hM : EdwardsSum d P T M) : L = M := by
  have hx : L.1 = M.1 := assoc_x hP hQ hR hS hL hT hM
  have hy : i * L.2 = i * M.2 := assoc_x hP hQ (hR.quarterTurn hi) hS (hL.quarterTurn hi) (hT.quarterTurn hi)
    (hM.quarterTurn hi)
  have hi0 : i ≠ 0 := by
    rintro rfl
    simp at hi
  exact Prod.ext hx (mul_left_cancel₀ hi0 hy)

end EdwardsPairs

/-! ### The addition law on points of E -/

/-- A point's coordinates in ZMod p. -/
def coords (P : Point) : ZMod Config.p × ZMod Config.p := (toZ P.x, toZ P.y)

theorem coords_injective {P Q : Point} (h : coords P = coords Q) : P = Q := by
  obtain ⟨hx, hy⟩ := Prod.mk.inj h
  cases P
  cases Q
  rw [Point.mk.injEq]
  exact ⟨toZ_injective hx, toZ_injective hy⟩

theorem coords_neutral : coords neutral = (0, 1) := Prod.ext toZ_feZero toZ_feOne

theorem coords_pointNeg (P : Point) : coords (pointNeg P) = (-(coords P).1, (coords P).2) :=
  Prod.ext (toZ_negp P.x) rfl

section PointsOfE

variable {P Q R : Point}

theorem edwardsOn_coords [Fact Config.p.Prime] (hP : OnE P) : EdwardsOn (Config.curveD : ZMod Config.p) (coords P) :=
  (onCurve_iff _ _).1 hP

/-- The model's addition is the law on the pairs (42_group R186). -/
theorem edwardsSum_pointAdd [Fact Config.p.Prime] (hP : OnE P) (hQ : OnE Q) :
    EdwardsSum (Config.curveD : ZMod Config.p) (coords P) (coords Q) (coords (pointAdd P Q)) := by
  have ht : edwardsProduct (Config.curveD : ZMod Config.p) (coords P) (coords Q) = toZ (lawProduct P Q) :=
    (toZ_lawProduct P Q).symm
  obtain ⟨hplus, hminus⟩ := lawProduct_denominators hP hQ
  refine ⟨?_, ?_, ?_, ?_⟩ <;> rw [ht]
  · rwa [← toZ_feOne, ← toZ_addp, Ne, toZ_eq_zero_iff]
  · rwa [← toZ_feOne, ← toZ_subp, Ne, toZ_eq_zero_iff]
  · exact pointAdd_x_mul hplus
  · exact pointAdd_y_mul hminus

theorem pointAdd_comm (hP : OnE P) (hQ : OnE Q) : pointAdd P Q = pointAdd Q P := by
  have : Fact Config.p.Prime := ⟨p_prime⟩
  have hsum := (edwardsSum_pointAdd hQ hP).comm
  exact coords_injective ((edwardsSum_pointAdd hP hQ).unique hsum.x hsum.y)

theorem pointAdd_neutral (hP : OnE P) : pointAdd P neutral = P := by
  have : Fact Config.p.Prime := ⟨p_prime⟩
  apply coords_injective
  apply (edwardsSum_pointAdd hP onE_neutral).unique <;> rw [edwardsProduct, coords_neutral] <;> ring

theorem pointAdd_pointNeg (hP : OnE P) : pointAdd P (pointNeg P) = neutral := by
  have : Fact Config.p.Prime := ⟨p_prime⟩
  have hcurve := edwardsOn_coords hP
  rw [EdwardsOn] at hcurve
  apply coords_injective
  apply (edwardsSum_pointAdd hP (onE_pointNeg hP)).unique <;>
    simp only [edwardsProduct, coords_neutral, coords_pointNeg]
  · ring
  · linear_combination -hcurve

theorem pointNeg_pointAdd (hP : OnE P) (hQ : OnE Q) :
    pointNeg (pointAdd P Q) = pointAdd (pointNeg P) (pointNeg Q) := by
  have : Fact Config.p.Prime := ⟨p_prime⟩
  obtain ⟨_, _, hx, hy⟩ := edwardsSum_pointAdd hP hQ
  rw [edwardsProduct] at hx hy
  apply Eq.symm
  apply coords_injective
  apply (edwardsSum_pointAdd (onE_pointNeg hP) (onE_pointNeg hQ)).unique <;>
    simp only [edwardsProduct, coords_pointNeg]
  · linear_combination -hx
  · linear_combination hy

theorem pointAdd_assoc (hP : OnE P) (hQ : OnE Q) (hR : OnE R) :
    pointAdd (pointAdd P Q) R = pointAdd P (pointAdd Q R) := by
  have : Fact Config.p.Prime := ⟨p_prime⟩
  exact coords_injective <| EdwardsSum.assoc toZ_sqrtM1_mul_self (edwardsOn_coords hP) (edwardsOn_coords hQ)
    (edwardsOn_coords hR) (edwardsSum_pointAdd hP hQ) (edwardsSum_pointAdd (onE_pointAdd hP hQ) hR)
    (edwardsSum_pointAdd hQ hR) (edwardsSum_pointAdd hP (onE_pointAdd hQ hR))

end PointsOfE

/-- Settles O41. -/
theorem additionLawIsCompleteOnE : Obligations.AdditionLawIsCompleteOnE := by
  intro P Q hP hQ
  obtain ⟨hplus, hminus⟩ := lawProduct_denominators hP hQ
  refine ⟨hplus, hminus, toZ_injective ?_, toZ_injective ?_, onE_pointAdd hP hQ⟩
  · rw [toZ_mulp, ← lawProduct, toZ_addp, toZ_feOne, toZ_addp, toZ_mulp, toZ_mulp]
    exact pointAdd_x_mul hplus
  · rw [toZ_mulp, ← lawProduct, toZ_subp, toZ_feOne, toZ_addp, toZ_mulp, toZ_mulp]
    exact pointAdd_y_mul hminus

/-- Settles O42. -/
theorem pointGroupLaws : Obligations.PointGroupLaws := fun _ _ hP hQ =>
  ⟨pointAdd_comm hP hQ, pointAdd_neutral hP, (pointAdd_comm onE_neutral hP).trans (pointAdd_neutral hP),
    onE_pointNeg hP, pointAdd_pointNeg hP, pointNeg_pointAdd hP hQ⟩

/-! ### Scalar multiples (42_group R187) -/

section Multiples

variable {P : Point}

theorem onE_pointMulByAdding (hP : OnE P) (n : Nat) : OnE (pointMulByAdding P n) := by
  induction n with
  | zero => exact onE_neutral
  | succ n ih => exact onE_pointAdd ih hP

theorem pointMulByAdding_add (hP : OnE P) (m n : Nat) :
    pointMulByAdding P (m + n) = pointAdd (pointMulByAdding P m) (pointMulByAdding P n) := by
  have hm := onE_pointMulByAdding hP m
  induction n with
  | zero => exact (pointAdd_neutral hm).symm
  | succ n ih => rw [← Nat.add_assoc, pointMulByAdding, ih, pointAdd_assoc hm (onE_pointMulByAdding hP n) hP,
      ← pointMulByAdding]

/-- Doubling and adding computes the repeated sum for every n that its k binary digits hold. -/
theorem doubleAndAdd_eq_pointMulByAdding (hP : OnE P) :
    ∀ k n, n < 2 ^ k → doubleAndAdd P k n = pointMulByAdding P n := by
  intro k
  induction k with
  | zero =>
    intro n hn
    obtain rfl : n = 0 := Nat.lt_one_iff.1 hn
    rfl
  | succ k ih =>
    intro n hn
    have hhalf : doubleAndAdd P k (n / 2) = pointMulByAdding P (n / 2) := ih _ (by omega)
    simp only [doubleAndAdd, hhalf, ← pointMulByAdding_add hP]
    split
    case isTrue hodd =>
      have hsplit : n = n / 2 + n / 2 + 1 := by omega
      conv_rhs => rw [hsplit, pointMulByAdding]
    case isFalse heven =>
      have hsplit : n / 2 + n / 2 = n := by omega
      rw [hsplit]

theorem pointMul_eq_pointMulByAdding (hP : OnE P) (n : Nat) : pointMul n P = pointMulByAdding P n :=
  doubleAndAdd_eq_pointMulByAdding hP _ n Nat.lt_log2_self

theorem pointMul_zero (hP : OnE P) : pointMul 0 P = neutral := pointMul_eq_pointMulByAdding hP 0

theorem pointMul_succ (hP : OnE P) (n : Nat) : pointMul (n + 1) P = pointAdd (pointMul n P) P := by
  rw [pointMul_eq_pointMulByAdding hP, pointMul_eq_pointMulByAdding hP, pointMulByAdding]

theorem pointMul_add (hP : OnE P) (m n : Nat) : pointMul (m + n) P = pointAdd (pointMul m P) (pointMul n P) := by
  simp only [pointMul_eq_pointMulByAdding hP, pointMulByAdding_add hP]

/-- Where m·P = O, a multiple depends on its factor modulo m only. -/
theorem pointMul_mod (hP : OnE P) {m : Nat} (hm : pointMul m P = neutral) (n : Nat) :
    pointMul n P = pointMul (n % m) P := by
  have hmultiple (k : Nat) : pointMul (k * m) P = neutral := by
    induction k with
    | zero => rw [Nat.zero_mul, pointMul_zero hP]
    | succ k ih => rw [Nat.succ_mul, pointMul_add hP, ih, hm, pointAdd_neutral onE_neutral]
  have hr := onE_pointMul hP (n % m)
  calc pointMul n P
      = pointMul (n % m + n / m * m) P := by rw [Nat.mod_add_div']
    _ = pointMul (n % m) P := by rw [pointMul_add hP, hmultiple, pointAdd_neutral hr]

end Multiples

/-- The point (0, −1), of order 2. -/
def orderTwoPoint : Point := ⟨feZero, negp feOne⟩

theorem onE_orderTwoPoint : OnE orderTwoPoint := by
  unfold OnE
  decide +kernel

/-- ℓ is odd, so that ℓ·T = T for the point T of order 2. -/
theorem pointMul_ell_orderTwoPoint : pointMul Config.ell orderTwoPoint = orderTwoPoint := by
  have hdouble : pointMul 2 orderTwoPoint = neutral := by decide +kernel
  have hone : pointMul (Config.ell % 2) orderTwoPoint = orderTwoPoint := by decide +kernel
  rw [pointMul_mod onE_orderTwoPoint hdouble, hone]

/-- Settles O44: `pointMul` is repeated addition, and ℓ times the point of order 2 is not O. -/
theorem scalarMultipleIsRepeatedAddition : Obligations.ScalarMultipleIsRepeatedAddition := by
  have hne : orderTwoPoint ≠ neutral := by decide +kernel
  exact ⟨fun P hP => ⟨pointMul_zero hP, pointMul_succ hP, pointMul_eq_pointMulByAdding hP⟩,
    fun P n hP hell => pointMul_mod hP hell n, orderTwoPoint, onE_orderTwoPoint, by rwa [pointMul_ell_orderTwoPoint]⟩

end Sys2Proof.Machine

/-! The group commands (42_group R188 to R205): the point encoding and its decoder, then each command's row and the value
that it writes. -/

namespace Sys2Proof.Machine

/-! ### Decoding a point (42_group R182) -/

/-- The x that pair with y on E are the roots of (y² − 1)/(d·y² + 1). -/
theorem onCurve_iff_mulp_self (x y : Fe) : onCurve x y = true ↔
    mulp x x = divp (subp (mulp y y) feOne) (addp (mulp dCoeff (mulp y y)) feOne) := by
  rw [mulp_self_eq_divp_iff (decode_denominator_ne_zero y), onCurve_iff]
  simp only [toZ_addp, toZ_subp, toZ_mulp, toZ_feOne, toZ_dCoeff]
  constructor <;> intro h <;> linear_combination -h

/-- A y with an x on E decodes to the one of x and −x that the sign bit asks for. -/
theorem decodePoint_of_onCurve {v : Nat} {x : Fe} (hx : onCurve x (compressedY v) = true) :
    decodePoint v = (⟨withParity (compressedSign v) (withParity false x), compressedY v⟩, true) := by
  have hroot := sqrtRatio_of_root (decode_denominator_ne_zero _) ((onCurve_iff_mulp_self _ _).1 hx)
  simp only [decodePoint, hroot, if_true]

/-- A y with no x on E decodes to O and 0. -/
theorem decodePoint_of_not_onCurve {v : Nat} (h : ¬ ∃ x, onCurve x (compressedY v) = true) :
    decodePoint v = (neutral, false) := by
  have hno : ¬ HasRoot (divp (subp (mulp (compressedY v) (compressedY v)) feOne)
      (addp (mulp dCoeff (mulp (compressedY v) (compressedY v))) feOne)) :=
    fun ⟨x, hx⟩ => h ⟨x, (onCurve_iff_mulp_self _ _).2 hx⟩
  simp [decodePoint, sqrtRatio_of_not_hasRoot (decode_denominator_ne_zero _) hno]

/-- The parity of the one of a and −a that is asked for, unless it is 0. -/
theorem parity_withParity {sign : Bool} {a : Fe} (h : withParity sign a ≠ feZero) :
    parity (withParity sign a) = sign := by
  unfold withParity at h ⊢
  split
  case isTrue hsign => exact hsign
  case isFalse hsign =>
    rw [if_neg hsign, Ne, negp_eq_feZero_iff] at h
    rw [parity_negp h, Bool.eq_not.2 hsign, Bool.not_not]

/-- The model's decoder is that of 42_group R182. -/
theorem isDecoded_decodePoint (v : Nat) : IsDecoded v (decodePoint v).1 (decodePoint v).2 := by
  have hE := onE_decodePoint v
  refine ⟨fun hsome => ?found, fun hnone => ?none⟩
  case found =>
    obtain ⟨x, hx⟩ := hsome
    rw [decodePoint_of_onCurve hx] at hE ⊢
    refine ⟨rfl, hE, rfl, or_iff_not_imp_left.2 fun hne => ?_⟩
    have hsign : parity (withParity (compressedSign v) (withParity false x)) = v.testBit 255 := parity_withParity hne
    rw [← hsign, parity, beq_iff_eq]
  case none =>
    rw [decodePoint_of_not_onCurve hnone]
    exact ⟨rfl, rfl⟩

/-- The encoding of a point of E is canonical. -/
theorem canonicalCompressed_encodePoint {P : Point} (hP : OnE P) : CanonicalCompressed (encodePoint P) := by
  have hy : P.y.val < 2 ^ 255 - 19 := P.y.isLt
  have hlow : encodePoint P % 2 ^ 255 = P.y.val := by
    rw [encodePoint]
    omega
  rw [CanonicalCompressed, decodePoint_encodePoint hP, hlow, ← compressedSign, compressedSign_encodePoint]
  refine ⟨encodePoint_lt P, P.y.isLt, rfl, fun hx => ?_⟩
  rw [hx]
  decide +kernel

/-- A canonical string is the encoding of the point that it decodes to: its low bits are y, and its sign bit is the
parity of x, of 0 too. -/
theorem encodePoint_decodePoint {v : Nat} (h : CanonicalCompressed v) : encodePoint (decodePoint v).1 = v := by
  obtain ⟨hv, hlow, hok, hzero⟩ := h
  obtain ⟨hsome, hnone⟩ := isDecoded_decodePoint v
  have hx : ∃ x, onCurve x (Fe.ofNat (v % 2 ^ 255)) = true := by
    by_contra hno
    obtain ⟨hfail, _⟩ := hnone hno
    rw [hok] at hfail
    cases hfail
  obtain ⟨_, _, hy, hsign⟩ := hsome hx
  have hparity : (decodePoint v).1.x.val % 2 = v / 2 ^ 255 := by
    rw [Nat.testBit_eq_decide_div_mod_eq] at hzero hsign
    by_cases hx0 : (decodePoint v).1.x = feZero
    · have hbit := hzero hx0
      rw [hx0, feZero_val]
      rw [decide_eq_false_iff_not] at hbit
      omega
    · have hbit := hsign.resolve_left hx0
      rw [decide_eq_true_iff] at hbit
      omega
  rw [encodePoint, parity_toNat, hparity, hy, Fe.val_ofNat, Nat.mod_eq_of_lt hlow, Nat.mod_add_div']

/-- Settles O47. -/
theorem pointEncodingRoundTrips : Obligations.PointEncodingRoundTrips := by
  refine ⟨fun P hP => ⟨encodePoint_lt P, decodePoint_encodePoint hP⟩, fun v _ => ⟨fun h => ?_, encodePoint_decodePoint⟩⟩
  have hcanonical := canonicalCompressed_encodePoint (onE_decodePoint v)
  rwa [h] at hcanonical

/-! ### Rows and frames (30_encoding R95, 40_control R120) -/

/-- The group rows' encodings, in the order of their opcodes. -/
theorem groupRows_encodedBy : groupRows.Forall fun r => EncodedBy r.mask r.fixed r.build :=
  List.forall_iff_forall_mem.2 fun r hr => encodedBy_of_mem (by simp [opcodeTable, hr])

section Frames

variable {s u : State} {fs : List FReg} {ss : List SReg} {ps : List PReg} {cs : List CReg}

theorem Frame.setP (h : Frame s u fs ss ps cs) (d : PReg) (v : Point) : Frame s (u.setP d v) fs ss (d :: ps) cs := by
  obtain ⟨hF, hS, hP, hrest⟩ := h
  refine ⟨hF, hS, fun i hi => ?_, hrest⟩
  rw [List.mem_cons, not_or] at hi
  obtain ⟨hid, hips⟩ := hi
  rw [State.getP_setP_other u d i v (Ne.symm hid)]
  exact hP i hips

/-- A frame that names more point registers says less. -/
theorem Frame.monoP {qs : List PReg} (h : Frame s u fs ss ps cs) (hsub : ps ⊆ qs) : Frame s u fs ss qs cs := by
  obtain ⟨hF, hS, hP, hrest⟩ := h
  exact ⟨hF, hS, fun i hi => hP i fun hmem => hi (hsub hmem), hrest⟩

end Frames

/-- A command that writes one point register. -/
theorem retire_setP (s : State) (d : PReg) (v : Point) :
    ∃ t, retire (s.setP d v) = .next t ∧ t.pc = s.pc + 4#13 ∧ t.getP d = v ∧ Frame s t [] [] [d] [] :=
  ⟨_, retire_eq _, rfl, State.getP_setP_same s d v, ((Frame.refl s).setP d v).advance⟩

/-- A command that writes one point register and its success bit. -/
theorem retire_setP_setC (s : State) (d : PReg) (k : CReg) (r : Point × Bool) :
    ∃ t, retire ((s.setP d r.1).setC k r.2) = .next t ∧ t.pc = s.pc + 4#13 ∧ t.getP d = r.1 ∧ t.getC k = r.2 ∧
      Frame s t [] [] [d] [k] :=
  ⟨_, retire_eq _, rfl, State.getP_setP_same s d r.1, State.getC_setC_same _ k r.2,
    (((Frame.refl s).setP d r.1).setC k r.2).advance⟩

/-! ### The moves and the group operations (42_group R188 to R197) -/

theorem neutral_val : neutral.x.val = 0 ∧ neutral.y.val = 1 := by decide +kernel

/-- Settles O39: each command is `retire_setP` with its own point. -/
theorem pointMoves : Obligations.PointMoves := by
  obtain ⟨hmov, hid, hbase, _⟩ := groupRows_encodedBy
  refine ⟨hmov, fun d a s => retire_setP s d (s.getP a), hid, fun d s => ?id, hbase, fun d s => ?base⟩
  case id =>
    obtain ⟨t, ht, hpc, hd, hframe⟩ := retire_setP s d neutral
    obtain ⟨hx, hy⟩ := neutral_val
    exact ⟨t, ht, hpc, by rw [hd, hx], by rw [hd, hy], hframe⟩
  case base =>
    obtain ⟨t, ht, hpc, hd, hframe⟩ := retire_setP s d basePoint
    exact ⟨t, ht, hpc, by rw [hd]; decide +kernel, by rw [hd]; decide +kernel, hframe⟩

/-- An element and its negative add to 0 modulo p (42_group R184). -/
theorem negp_add_self_mod (a : Fe) : ((negp a).val + a.val) % Config.p = 0 := by
  have hsum : addp (negp a) a = feZero := toZ_injective (by rw [toZ_addp, toZ_negp, toZ_feZero, neg_add_cancel])
  rw [← addp_val, hsum, feZero_val]

/-- Settles O40: each command is `retire_setP` with its own point. -/
theorem pointGroupCommands : Obligations.PointGroupCommands := by
  obtain ⟨_, _, _, hadd, hdbl, hneg, _⟩ := groupRows_encodedBy
  refine ⟨hadd, fun d a b s => ?add, hdbl, fun d a s => ?dbl, hneg, fun d a s => ?neg⟩
  case add =>
    obtain ⟨t, ht, hpc, hd, hframe⟩ := retire_setP s d (pointAdd (s.getP a) (s.getP b))
    exact ⟨t, ht, hpc, by rw [hd, pointAdd_x, lawProduct], by rw [hd, pointAdd_y, lawProduct], hframe⟩
  case dbl =>
    obtain ⟨t, ht, hpc, hd, hframe⟩ := retire_setP s d (pointAdd (s.getP a) (s.getP a))
    exact ⟨t, ht, hpc, by rw [hd, pointAdd_x, lawProduct], by rw [hd, pointAdd_y, lawProduct], hframe⟩
  case neg =>
    obtain ⟨t, ht, hpc, hd, hframe⟩ := retire_setP s d (pointNeg (s.getP a))
    exact ⟨t, ht, hpc, by rw [hd, pointNeg, negp_add_self_mod], by rw [hd, pointNeg], hframe⟩

/-- Settles O43: each command is `retire_setP` with its own multiple. -/
theorem scalarMultipleCommands : Obligations.ScalarMultipleCommands := by
  obtain ⟨_, _, _, _, _, _, hmul8, _, _, hsmulb, hsmul, hdsmul, _⟩ := groupRows_encodedBy
  exact ⟨hsmulb, fun d b s => retire_setP s d (pointMul (s.getS b).toNat basePoint),
    hsmul, fun d a b s => retire_setP s d (pointMul (s.getS b).toNat (s.getP a)),
    hdsmul, fun d a b c s =>
      retire_setP s d (pointAdd (pointMul (s.getS b).toNat (s.getP a)) (pointMul (s.getS c).toNat basePoint)),
    hmul8, fun d a s => retire_setP s d (pointMul 8 (s.getP a))⟩

/-! ### The select and the identity test (42_group R198, R199) -/

theorem isIdentity_iff (P : Point) : isIdentity P = true ↔ P.x.val = 0 ∧ P.y.val = 1 := by
  obtain ⟨hx, hy⟩ := neutral_val
  rw [isIdentity, decide_eq_true_iff, ← hx, ← hy, ← Fin.ext_iff, ← Fin.ext_iff]
  exact iff_of_eq (Point.mk.injEq P.x P.y neutral.x neutral.y)

/-- Settles O45: with C[k] = 0 PT_CMOV retires the state as it is. -/
theorem pointSelectAndIdentityTest : Obligations.PointSelectAndIdentityTest := by
  obtain ⟨_, _, _, _, _, _, _, hcmov, hisid, _⟩ := groupRows_encodedBy
  refine ⟨hcmov, fun d a k s => ?cmov, hisid, fun k a s => ?isid⟩
  case cmov =>
    refine ⟨_, retire_eq _, ?_⟩
    split
    case isTrue => exact ⟨rfl, State.getP_setP_same s d _, ((Frame.refl s).setP d _).advance⟩
    case isFalse => exact ⟨rfl, rfl, ((Frame.refl s).monoP (List.nil_subset _)).advance⟩
  case isid =>
    obtain ⟨t, ht, hpc, hk, hframe⟩ := retire_setC s k (isIdentity (s.getP a))
    exact ⟨t, ht, hpc, by rw [hk, isIdentity_iff], hframe⟩

/-! ### The slot transfers (42_group R200, R201) -/

/-- Settles O46. -/
theorem pointSlotTransfers : Obligations.PointSlotTransfers := by
  obtain ⟨_, _, _, _, hdec, henc, _⟩ := slotRows_encodedBy
  refine ⟨hdec, fun d k slot s => ?load, henc, fun slot d s hwf => ?store⟩
  case load =>
    obtain ⟨t, ht, hpc, hd, hk, hframe⟩ := retire_setP_setC s d k (decodePoint (s.readSlot slot))
    exact ⟨t, ht, hpc, by rw [hd, hk]; exact isDecoded_decodePoint _, hframe⟩
  case store =>
    refine ⟨_, retire_eq _, ?_, ?_, (storeFrame_writeSlot s slot _).advance⟩
    · rw [State.advance_pc, State.writeSlot_pc]
    · rw [State.readSlot_advance, State.readSlot_writeSlot_of_lt hwf slot (encodePoint_lt _), encodePoint, parity_toNat]

/-! ### The coordinate loads and the store (42_group R202 to R205) -/

theorem loadAffine_eq (x y : Fe) :
    loadAffine x y = if onCurve x y = true then (⟨x, y⟩, true) else (neutral, false) := rfl

theorem loadProjective_eq (X Y Z : Fe) : loadProjective X Y Z =
    if Z.val ≠ 0 ∧ onCurve (divp X Z) (divp Y Z) = true then (⟨divp X Z, divp Y Z⟩, true) else (neutral, false) := by
  by_cases hZ : Z = feZero
  · have hval : ¬ Z.val ≠ 0 := not_not.2 ((eq_feZero_iff Z).1 hZ)
    rw [loadProjective, if_pos hZ, if_neg fun ⟨hne, _⟩ => hval hne]
  · have hval : Z.val ≠ 0 := mt (eq_feZero_iff Z).2 hZ
    simp only [loadProjective, if_neg hZ, loadAffine_eq, hval, ne_eq, not_false_eq_true, true_and]

theorem loadExtended_eq (X Y Z T : Fe) : loadExtended X Y Z T =
    if Z.val ≠ 0 ∧ T.val * Z.val % Config.p = X.val * Y.val % Config.p ∧ onCurve (divp X Z) (divp Y Z) = true then
      (⟨divp X Z, divp Y Z⟩, true)
    else (neutral, false) := by
  have hT : mulp T Z = mulp X Y ↔ T.val * Z.val % Config.p = X.val * Y.val % Config.p := by
    rw [Fin.ext_iff, mulp_val, mulp_val]
  rw [loadExtended, loadProjective_eq]
  by_cases hTZ : mulp T Z = mulp X Y
  · simp only [if_pos hTZ, hT.1 hTZ, true_and]
  · simp only [if_neg hTZ, mt hT.2 hTZ, false_and, and_false, if_false]

/-- A load of the point Q where its condition c holds, and of O where it does not. -/
theorem retire_load (s : State) (d : PReg) (k : CReg) {r : Point × Bool} {c : Prop} [Decidable c] {Q : Point}
    (hr : r = if c then (Q, true) else (neutral, false)) :
    ∃ t, retire ((s.setP d r.1).setC k r.2) = .next t ∧ t.pc = s.pc + 4#13 ∧
      (c → t.getC k = true ∧ t.getP d = Q) ∧ (¬ c → t.getC k = false ∧ t.getP d = neutral) ∧ Frame s t [] [] [d] [k] := by
  obtain ⟨t, ht, hpc, hd, hk, hframe⟩ := retire_setP_setC s d k r
  refine ⟨t, ht, hpc, fun hc => ?_, fun hc => ?_, hframe⟩
  · rw [hd, hk, hr, if_pos hc]
    exact ⟨rfl, rfl⟩
  · rw [hd, hk, hr, if_neg hc]
    exact ⟨rfl, rfl⟩

/-- Settles O49: each command is `retire_load` with its own condition. -/
theorem coordinateLoads : Obligations.CoordinateLoads := by
  obtain ⟨_, _, _, _, _, _, _, _, _, _, _, _, hldaff, hldproj, hldext, _⟩ := groupRows_encodedBy
  exact ⟨hldaff, fun d k a b s => retire_load s d k (loadAffine_eq _ _),
    hldproj, fun d k a b c s => retire_load s d k (loadProjective_eq _ _ _),
    hldext, fun d k a b c e s => retire_load s d k (loadExtended_eq _ _ _ _)⟩

/-- Settles O50: y is written last, so that it wins where d and a meet. -/
theorem storeAffineCoordinates : Obligations.StoreAffineCoordinates := by
  obtain ⟨_, _, _, _, _, _, _, _, _, _, _, _, _, _, _, hstaff⟩ := groupRows_encodedBy
  refine ⟨hstaff, fun d a b s => ⟨_, retire_eq _, rfl, State.getF_setF_same _ a _, fun hda => ?_, ?_⟩⟩
  · rw [State.getF_advance, State.getF_setF_other _ a d _ (Ne.symm hda), State.getF_setF_same]
  · have hswap : [a, d] ⊆ [d, a] := List.Perm.subset (List.Perm.swap d a [])
    exact ((((Frame.refl s).setF d _).setF a _).mono hswap).advance

end Sys2Proof.Machine

/-! The scalar commands (43_scalar R231 to R239): the slot transfers, the moves, the reductions modulo ℓ, the clamp bit by
bit and as an integer, the select and the canonicity test. -/

namespace Sys2Proof.Machine

/-! ### Rows and frames (30_encoding R95, 40_control R120) -/

/-- The scalar rows' encodings, in the order of their opcodes. -/
theorem scalarRows_encodedBy : scalarRows.Forall fun r => EncodedBy r.mask r.fixed r.build :=
  List.forall_iff_forall_mem.2 fun r hr => encodedBy_of_mem (by simp [opcodeTable, hr])

section Frames

variable {s u : State} {fs : List FReg} {ss : List SReg} {ps : List PReg} {cs : List CReg}

theorem Frame.setS (h : Frame s u fs ss ps cs) (d : SReg) (v : Scalar) : Frame s (u.setS d v) fs (d :: ss) ps cs := by
  obtain ⟨hF, hS, hrest⟩ := h
  refine ⟨hF, fun i hi => ?_, hrest⟩
  rw [List.mem_cons, not_or] at hi
  obtain ⟨hid, hiss⟩ := hi
  rw [State.getS_setS_other u d i v (Ne.symm hid)]
  exact hS i hiss

/-- A frame that names more scalar registers says less. -/
theorem Frame.monoS {rs : List SReg} (h : Frame s u fs ss ps cs) (hsub : ss ⊆ rs) : Frame s u fs rs ps cs := by
  obtain ⟨hF, hS, hrest⟩ := h
  exact ⟨hF, fun i hi => hS i fun hmem => hi (hsub hmem), hrest⟩

end Frames

/-- A command that writes one scalar register. -/
theorem retire_setS (s : State) (d : SReg) (v : Scalar) :
    ∃ t, retire (s.setS d v) = .next t ∧ t.pc = s.pc + 4#13 ∧ t.getS d = v ∧ Frame s t [] [d] [] [] :=
  ⟨_, retire_eq _, rfl, State.getS_setS_same s d v, ((Frame.refl s).setS d v).advance⟩

/-- A scalar register holds every integer below 2^256 as it is. -/
theorem toNat_ofNat_scalar {n : Nat} (h : n < 2 ^ 256) : (BitVec.ofNat 256 n : Scalar).toNat = n := by
  rw [BitVec.toNat_ofNat, Nat.mod_eq_of_lt h]

/-! ### The clamp (43_scalar R236) -/

theorem getLsbD_seven (j : Nat) : (7#256).getLsbD j = decide (j < 3) := by
  have hbits : Nat.testBit 7 j = decide (j < 3) := Nat.testBit_two_pow_sub_one 3 j
  rw [BitVec.getLsbD_ofNat, hbits, ← Bool.decide_and]
  exact decide_eq_decide.2 ⟨And.right, fun h => ⟨h.trans (by decide), h⟩⟩

theorem getLsbD_ofNat_two_pow {i : Nat} (hi : i < 256) (j : Nat) :
    (BitVec.ofNat 256 (2 ^ i)).getLsbD j = decide (i = j) := by
  rw [BitVec.getLsbD_ofNat, Nat.testBit_two_pow, ← Bool.decide_and]
  exact decide_eq_decide.2 ⟨And.right, fun h => ⟨h ▸ hi, h⟩⟩

/-- Each of the two masks and the bit set decides the bits it names and leaves the others. -/
theorem getLsbD_clamp (v : Scalar) {j : Nat} (hj : j < 256) :
    (clamp v).getLsbD j = if j < 3 ∨ j = 255 then false else if j = 254 then true else v.getLsbD j := by
  rw [clamp, BitVec.getLsbD_or, BitVec.getLsbD_and, BitVec.getLsbD_and, BitVec.getLsbD_not, BitVec.getLsbD_not,
    getLsbD_seven, getLsbD_ofNat_two_pow (by decide), getLsbD_ofNat_two_pow (by decide), decide_eq_true hj]
  split
  case isTrue hcleared =>
    rcases hcleared with hlow | rfl
    · have hset : 254 ≠ j := by omega
      simp [hlow, hset]
    · simp
  case isFalse hkept =>
    rw [not_or] at hkept
    obtain ⟨hlow, htop⟩ := hkept
    split
    case isTrue hset => simp [hset]
    case isFalse hset => simp [hlow, Ne.symm htop, Ne.symm hset]

/-- No bit that the clamp writes is one that it reads. -/
theorem clamp_clamp (v : Scalar) : clamp (clamp v) = clamp v := by
  refine BitVec.eq_of_getLsbD_eq fun j hj => ?_
  rw [getLsbD_clamp _ hj, getLsbD_clamp v hj]
  split
  · rfl
  · split <;> rfl

theorem eight_dvd_clamp (v : Scalar) : 8 ∣ (clamp v).toNat := by
  refine Nat.dvd_of_mod_eq_zero (Nat.eq_of_testBit_eq fun j => ?_)
  rw [show 8 = 2 ^ 3 from rfl, Nat.testBit_mod_two_pow, BitVec.testBit_toNat, Nat.zero_testBit, Bool.and_eq_false_imp,
    decide_eq_true_iff]
  intro hj
  rw [getLsbD_clamp v (hj.trans (by decide)), if_pos (Or.inl hj)]

theorem two_pow_le_clamp (v : Scalar) : 2 ^ 254 ≤ (clamp v).toNat := by
  refine Nat.ge_two_pow_of_testBit ?_
  rw [BitVec.testBit_toNat, getLsbD_clamp v (by decide), if_neg (by decide), if_pos rfl]

theorem clamp_lt (v : Scalar) : (clamp v).toNat < 2 ^ 255 := by
  refine BitVec.toNat_lt_of_msb_false ?_
  rw [BitVec.msb_eq_getLsbD_last, getLsbD_clamp v (by decide), if_pos (Or.inr rfl)]

/-- ℓ is odd, so that a common multiple of 8 and ℓ is one of 8·ℓ, and these are 0 or above 2^255. -/
theorem not_ell_dvd_clamp (v : Scalar) : ¬ Config.ell ∣ (clamp v).toNat := by
  intro hell
  have hdvd : 8 * Config.ell ∣ (clamp v).toNat :=
    Nat.Coprime.mul_dvd_of_dvd_of_dvd (by decide +kernel) (eight_dvd_clamp v) hell
  have hpos : 0 < (clamp v).toNat := lt_of_lt_of_le (by decide) (two_pow_le_clamp v)
  have hle : 8 * Config.ell ≤ (clamp v).toNat := Nat.le_of_dvd hpos hdvd
  have hbig : 2 ^ 255 < 8 * Config.ell := by decide
  exact absurd (clamp_lt v) (hbig.trans_le hle).le.not_gt

/-- Settles O37. -/
theorem scalarClamp : Obligations.ScalarClamp := by
  obtain ⟨_, _, _, _, hclamp, _⟩ := scalarRows_encodedBy
  refine ⟨hclamp, fun d a s => ?_⟩
  obtain ⟨t, ht, hpc, hd, hframe⟩ := retire_setS s d (clamp (s.getS a))
  refine ⟨t, ht, hpc, ?_⟩
  rw [hd]
  exact ⟨fun _ hj => getLsbD_clamp _ hj, eight_dvd_clamp _, two_pow_le_clamp _, clamp_lt _, not_ell_dvd_clamp _,
    clamp_clamp _, hframe⟩

/-! ### The slot transfers (43_scalar R231, R232) -/

/-- What SC_LD loads is the slot's integer, whatever it is. -/
theorem scalarOfSlot_readSlot_toNat (s : State) (slot : Slot) :
    (scalarOfSlot (s.readSlot slot)).toNat = s.readSlot slot :=
  toNat_ofNat_scalar (lt_of_lt_of_eq (s.readSlot_lt slot) (by decide))

/-- Settles O34. -/
theorem scalarSlotTransfers : Obligations.ScalarSlotTransfers := by
  obtain ⟨_, _, hscLd, hscSt, _⟩ := slotRows_encodedBy
  refine ⟨hscLd, fun d slot s => ?load, hscSt, fun slot d s hwf => ?store⟩
  case load =>
    obtain ⟨t, ht, hpc, hd, hframe⟩ := retire_setS s d (scalarOfSlot (s.readSlot slot))
    exact ⟨t, ht, hpc, by rw [hd, scalarOfSlot_readSlot_toNat], hframe⟩
  case store =>
    refine ⟨_, retire_eq _, ?_, ?_, (storeFrame_writeSlot s slot _).advance⟩
    · rw [State.advance_pc, State.writeSlot_pc]
    · rw [State.readSlot_advance, State.readSlot_writeSlot_of_lt hwf slot (s.getS d).isLt]

/-! ### The moves (43_scalar R233, R234) -/

/-- Settles O35: an immediate of 20 bits is below 2^256. -/
theorem scalarMoves : Obligations.ScalarMoves := by
  obtain ⟨hmov, hldi, _⟩ := scalarRows_encodedBy
  refine ⟨hmov, fun d a s => retire_setS s d (s.getS a), hldi, fun d imm s => ?_⟩
  obtain ⟨t, ht, hpc, hd, hframe⟩ := retire_setS s d (scalarOfImm imm)
  have hfits : 2 ^ 20 < 2 ^ 256 := by decide
  exact ⟨t, ht, hpc, fun himm => by rw [hd]; exact toNat_ofNat_scalar (himm.trans hfits), hframe⟩

/-! ### The reductions (43_scalar R235, R237) -/

theorem mod_ell_lt (n : Nat) : n % Config.ell < Config.ell := Nat.mod_lt n (by decide)

theorem scalarMod_toNat (n : Nat) : (scalarMod n).toNat = n % Config.ell :=
  toNat_ofNat_scalar ((mod_ell_lt n).trans (by decide))

/-- A command that writes a residue modulo ℓ to one scalar register. -/
theorem retire_setS_scalarMod (s : State) (d : SReg) (n : Nat) :
    ∃ t, retire (s.setS d (scalarMod n)) = .next t ∧ t.pc = s.pc + 4#13 ∧ (t.getS d).toNat = n % Config.ell ∧
      (t.getS d).toNat < Config.ell ∧ Frame s t [] [d] [] [] := by
  obtain ⟨t, ht, hpc, hd, hframe⟩ := retire_setS s d (scalarMod n)
  have hval : (t.getS d).toNat = n % Config.ell := by rw [hd, scalarMod_toNat]
  exact ⟨t, ht, hpc, hval, hval ▸ mod_ell_lt n, hframe⟩

/-- Settles O36: each command is `retire_setS_scalarMod` with its own integer. -/
theorem scalarReductions : Obligations.ScalarReductions := by
  obtain ⟨_, _, hreduce, hmuladd, _⟩ := scalarRows_encodedBy
  exact ⟨hreduce, fun d a b s => retire_setS_scalarMod s d ((s.getS b).toNat * 2 ^ 256 + (s.getS a).toNat),
    hmuladd, fun d a b c s => retire_setS_scalarMod s d ((s.getS a).toNat * (s.getS b).toNat + (s.getS c).toNat)⟩

/-! ### The select and the canonicity test (43_scalar R238, R239) -/

theorem isCanonical_iff (v : Scalar) : isCanonical v = true ↔ v.toNat < Config.ell := decide_eq_true_iff

/-- Settles O38: with C[k] = 0 SC_CMOV retires the state as it is. -/
theorem scalarSelectAndCanonicity : Obligations.ScalarSelectAndCanonicity := by
  obtain ⟨_, _, _, _, _, hcmov, hiscanon⟩ := scalarRows_encodedBy
  refine ⟨hcmov, fun d a k s => ?cmov, hiscanon, fun k a s => ?iscanon⟩
  case cmov =>
    refine ⟨_, retire_eq _, ?_⟩
    split
    case isTrue => exact ⟨rfl, State.getS_setS_same s d _, ((Frame.refl s).setS d _).advance⟩
    case isFalse => exact ⟨rfl, rfl, ((Frame.refl s).monoS (List.nil_subset _)).advance⟩
  case iscanon =>
    obtain ⟨t, ht, hpc, hk, hframe⟩ := retire_setC s k (isCanonical (s.getS a))
    exact ⟨t, ht, hpc, by rw [hk, isCanonical_iff], hframe⟩

end Sys2Proof.Machine

/-! The hash-to-point commands (44_hash_to_point R250 to R254): the Elligator2 map, which always reaches a u of the
Montgomery curve, the conversion to E by its defining equations, and the sign, which only negates the result. -/

namespace Sys2Proof.Machine

/-! ### Squares (44_hash_to_point R250) -/

section Squares

variable [Fact Config.p.Prime]

/-- 2 is no square, for p is 5 modulo 8. -/
theorem not_isSquare_two : ¬ IsSquare (2 : ZMod Config.p) := by
  rw [ZMod.exists_sq_eq_two_iff (by decide)]
  decide

/-- The product of two nonsquares is a square: their quadratic characters −1 multiply to 1. -/
theorem isSquare_mul_of_nonsquares {a b : ZMod Config.p} (ha : ¬ IsSquare a) (hb : ¬ IsSquare b) :
    IsSquare (a * b) := by
  have hab : a * b ≠ 0 := mul_ne_zero (fun h => ha (h ▸ IsSquare.zero)) (fun h => hb (h ▸ IsSquare.zero))
  rw [← quadraticChar_one_iff_isSquare hab, map_mul, quadraticChar_neg_one_iff_not_isSquare.2 ha,
    quadraticChar_neg_one_iff_not_isSquare.2 hb, neg_mul_neg, one_mul]

end Squares

/-! ### The Elligator2 map (44_hash_to_point R250) -/

/-- The denominator 1 + 2·r² of the map. -/
def ellDenominator (r : Fe) : Fe := addp feOne (mulp (Fe.ofNat 2) (mulp r r))

/-- The first candidate u1 = −A_M/(1 + 2·r²). -/
def ellCandidate (r : Fe) : Fe := divp (negp montCoeff) (ellDenominator r)

theorem toZ_ellDenominator (r : Fe) : toZ (ellDenominator r) = 1 + 2 * (toZ r * toZ r) := by
  rw [ellDenominator, toZ_addp, toZ_mulp, toZ_mulp, toZ_feOne, toZ_ofNat, Nat.cast_ofNat]

theorem toZ_montCoeff : toZ montCoeff = 486662 := toZ_ofNat 486662

/-- 1 + 2·r² is never 0, for 2 would be the square of 2·i·r. -/
theorem ellDenominator_ne_zero (r : Fe) : ellDenominator r ≠ feZero := by
  have : Fact Config.p.Prime := ⟨p_prime⟩
  intro hz
  rw [← toZ_eq_zero_iff, toZ_ellDenominator] at hz
  refine not_isSquare_two ⟨2 * toZ (Fe.ofNat Config.sqrtM1) * toZ r, ?_⟩
  linear_combination 2 * hz - 4 * toZ r * toZ r * toZ_sqrtM1_mul_self

/-- The defining equation of the first candidate. -/
theorem ellCandidate_mul (r : Fe) : toZ (ellCandidate r) * (1 + 2 * (toZ r * toZ r)) = -486662 := by
  rw [← toZ_ellDenominator, ellCandidate, toZ_divp_mul _ (ellDenominator_ne_zero r), toZ_negp, toZ_montCoeff]

theorem ell2_of_hasRoot {r : Fe} (h : HasRoot (montRhs (ellCandidate r))) : ell2 r = ellCandidate r :=
  if_pos ((isSquareIsHavingARoot _).2 h)

theorem ell2_of_not_hasRoot {r : Fe} (h : ¬ HasRoot (montRhs (ellCandidate r))) :
    ell2 r = subp (negp montCoeff) (ellCandidate r) :=
  if_neg (mt (isSquareIsHavingARoot _).1 h)

/-- The model's map is that of 44_hash_to_point R250. -/
theorem isElligator_ell2 (r : Fe) : IsElligator r (ell2 r) := by
  refine ⟨ellCandidate r, toZ_injective ?_, ell2_of_hasRoot, ell2_of_not_hasRoot⟩
  rw [← ellDenominator, toZ_mulp, toZ_ellDenominator, ellCandidate_mul, toZ_negp, toZ_montCoeff]

/-- −A_M − u1 = 2·r²·u1, and u² + A_M·u + 1 is the same at both candidates, so that the right sides of the curve's
equation differ by the factor 2·r². -/
theorem toZ_montRhs_second_candidate (r : Fe) : toZ (montRhs (subp (negp montCoeff) (ellCandidate r))) =
    2 * toZ (montRhs (ellCandidate r)) * (toZ r * toZ r) := by
  simp only [toZ_montRhs, toZ_montQuadratic, toZ_subp, toZ_negp, toZ_montCoeff]
  linear_combination -(toZ (ellCandidate r) * toZ (ellCandidate r) + 486662 * toZ (ellCandidate r) + 1) *
    ellCandidate_mul r

/-- The map's value is a u of the Montgomery curve: where the first candidate's right side is no square, twice it is
one. -/
theorem hasRoot_montRhs_ell2 (r : Fe) : HasRoot (montRhs (ell2 r)) := by
  have : Fact Config.p.Prime := ⟨p_prime⟩
  by_cases h : HasRoot (montRhs (ellCandidate r))
  · rwa [ell2_of_hasRoot h]
  · rw [ell2_of_not_hasRoot h, hasRoot_iff_isSquare_toZ, toZ_montRhs_second_candidate]
    exact (isSquare_mul_of_nonsquares not_isSquare_two (mt (hasRoot_iff_isSquare_toZ _).2 h)).mul ⟨toZ r, rfl⟩

/-- The map takes its argument by the square only. -/
theorem ell2_negp (r : Fe) : ell2 (negp r) = ell2 r := by
  have hsq : mulp (negp r) (negp r) = mulp r r := toZ_injective (by simp only [toZ_mulp, toZ_negp, neg_mul_neg])
  rw [ell2, ell2, hsq]

/-! ### The conversion to E (44_hash_to_point R251) -/

theorem parity_iff (a : Fe) : parity a = true ↔ a.val % 2 = 1 := by rw [parity, beq_iff_eq]

/-- The even x of the conversion, the root of −(A_M + 2)·u/(u² + A_M·u + 1). -/
def convertedX (u : Fe) : Fe := (sqrtRatio (mulp (negp (Fe.ofNat (Config.montA + 2))) u) (montQuadratic u)).1

theorem m2e_of_hasRoot {u : Fe} (h : HasRoot (montRhs u)) (sign : Bool) :
    m2e u sign = (⟨withParity sign (convertedX u), divp (subp u feOne) (addp u feOne)⟩, true) :=
  if_pos ((isSquareIsHavingARoot _).2 h)

theorem m2e_of_not_hasRoot {u : Fe} (h : ¬ HasRoot (montRhs u)) (sign : Bool) : m2e u sign = (neutral, false) :=
  if_neg (mt (isSquareIsHavingARoot _).1 h)

/-- The model's conversion is that of 44_hash_to_point R251. -/
theorem isConverted_m2e (u : Fe) (sign : Bool) : IsConverted u sign (m2e u sign).1 (m2e u sign).2 := by
  refine ⟨fun h => ?converted, fun h => ?refused⟩
  case converted =>
    have hu := addp_one_ne_zero_of_hasRoot h
    have hq := montQuadratic_ne_zero u
    obtain ⟨_, hx⟩ := sqrtRatio_of_hasRoot hq (hasRoot_edwards_x h)
    rw [m2e_of_hasRoot h]
    refine ⟨rfl, hu, hq, toZ_injective ?y, toZ_injective ?x, or_iff_not_imp_left.2 fun hne => ?parity⟩
    case y => rw [toZ_mulp, toZ_divp_mul _ hu]
    case x => rw [toZ_mulp, toZ_mulp, toZ_withParity_mul_self, convertedX, hx]
    case parity => rw [← parity_iff, parity_withParity hne]
  case refused =>
    rw [m2e_of_not_hasRoot h]
    exact ⟨rfl, rfl⟩

/-- The conversion of a value of the Elligator2 map succeeds. -/
theorem m2e_ell2_ok (r : Fe) (sign : Bool) : (m2e (ell2 r) sign).2 = true := by
  rw [m2e_of_hasRoot (hasRoot_montRhs_ell2 r)]

/-- Settles O52. -/
theorem elligatorOutputsAlwaysConvert : Obligations.ElligatorOutputsAlwaysConvert :=
  ⟨fun r sign => ⟨m2e_ell2_ok r sign, onE_m2e _ _⟩, onE_m2e⟩

/-! ### The commands (44_hash_to_point R252 to R254) -/

/-- The hash rows' encodings, in the order of their opcodes. -/
theorem hashRows_encodedBy : hashRows.Forall fun r => EncodedBy r.mask r.fixed r.build :=
  List.forall_iff_forall_mem.2 fun r hr => encodedBy_of_mem (by simp [opcodeTable, hr])

/-- Settles O51: the values written are those of `ell2`, of `m2e`, and 8 times that of the two. -/
theorem hashToPointCommands : Obligations.HashToPointCommands := by
  obtain ⟨hell2, hm2e, hh2p⟩ := hashRows_encodedBy
  refine ⟨hell2, fun d a s => ?ell2, hm2e, fun d k a b s => ?m2e, hh2p, fun d a b s => ?h2p⟩
  case ell2 =>
    obtain ⟨t, ht, hpc, hd, hframe⟩ := retire_setF s d (ell2 (s.getF a))
    exact ⟨t, ht, hpc, by rw [hd]; exact isElligator_ell2 _, hframe⟩
  case m2e =>
    obtain ⟨t, ht, hpc, hd, hk, hframe⟩ := retire_setP_setC s d k (m2e (s.getF a) (s.getC b))
    exact ⟨t, ht, hpc, by rw [hd, hk]; exact isConverted_m2e _ _, hframe⟩
  case h2p =>
    obtain ⟨t, ht, hpc, hd, hframe⟩ := retire_setP s d (pointMul 8 (m2e (ell2 (s.getF a)) (s.getC b)).1)
    exact ⟨t, ht, hpc, ⟨_, _, _, isElligator_ell2 _, isConverted_m2e _ _, m2e_ell2_ok _ _, hd⟩, hframe⟩

/-! ### The sign (44_hash_to_point R254) -/

/-- The other parity is that of the negative. -/
theorem withParity_true_eq_negp (a : Fe) : withParity true a = negp (withParity false a) := by
  unfold withParity
  cases parity a with
  | true => exact (negp_negp a).symm
  | false => rfl

/-- The sign negates the converted point; where the conversion fails, O is its own negative. -/
theorem m2e_true_eq_pointNeg (u : Fe) : (m2e u true).1 = pointNeg (m2e u false).1 := by
  by_cases h : HasRoot (montRhs u)
  · rw [m2e_of_hasRoot h, m2e_of_hasRoot h, pointNeg, withParity_true_eq_negp]
  · have hself : neutral = pointNeg neutral := by decide +kernel
    rw [m2e_of_not_hasRoot h, m2e_of_not_hasRoot h, ← hself]

/-- A multiple of −P is the negative of the multiple of P. -/
theorem pointMul_pointNeg {P : Point} (hP : OnE P) (n : Nat) : pointMul n (pointNeg P) = pointNeg (pointMul n P) := by
  induction n with
  | zero =>
    rw [pointMul_zero (onE_pointNeg hP), pointMul_zero hP]
    decide +kernel
  | succ n ih => rw [pointMul_succ (onE_pointNeg hP), pointMul_succ hP, ih, pointNeg_pointAdd (onE_pointMul hP n) hP]

/-- What H2P writes. -/
theorem getP_of_exec_h2p {d : PReg} {a : FReg} {b : CReg} {s t : State} (h : exec (.h2p d a b) s = .next t) :
    t.getP d = pointMul 8 (m2e (ell2 (s.getF a)) (s.getC b)).1 := by
  obtain rfl := retire_next.1 h
  rw [State.getP_advance, State.getP_setP_same]

/-- Settles O53. -/
theorem hashSignOnlyNegates : Obligations.HashSignOnlyNegates := by
  refine ⟨ell2_negp, fun d a b s s' t t' hF hC hC' ht ht' => ?_⟩
  rw [getP_of_exec_h2p ht, getP_of_exec_h2p ht', hF, hC, hC', m2e_true_eq_pointNeg, pointMul_pointNeg (onE_m2e _ _)]

end Sys2Proof.Machine

/-! The engine's faults (60_exceptions R271 to R277): the order in which the step looks for them, and what taking one
records and leaves. -/

namespace Sys2Proof.Machine

/-! ### The order of the faults (60_exceptions R277) -/

/-- With no abort pending, a running engine at the end of IMEM takes FETCH_RANGE (60_exceptions R271). -/
theorem State.engineStep_fetchRange {s : State} (hb : s.busy = true) (ha : s.abortReq = false) (hpc : s.pc = 4096#13) :
    s.engineStep = .next (s.raiseFault .fetchRange 0#32) := by
  rw [State.engineStep, if_pos hb, ha, if_neg Bool.false_ne_true, if_pos hpc]

/-- The end of IMEM is no command address, so a pc that is one is past the test for FETCH_RANGE. -/
theorem ne_end_of_isCommandAddress {pc : BitVec 13} (h : isCommandAddress pc = true) : pc ≠ 4096#13 := by
  rintro rfl
  exact absurd h (by decide)

/-- With no abort pending, a running engine at a command address performs the word there. -/
theorem State.engineStep_perform {s : State} (hb : s.busy = true) (ha : s.abortReq = false)
    (hpc : isCommandAddress s.pc = true) : s.engineStep = s.perform s.fetchedWord := by
  rw [State.engineStep, if_pos hb, ha, if_neg Bool.false_ne_true, if_neg (ne_end_of_isCommandAddress hpc), if_pos hpc]

theorem State.perform_illegalOpcode {s : State} {w : Word} (h : decode w = .illegalOpcode) :
    s.perform w = .next (s.raiseFault .illegalOpcode w) := by
  rw [State.perform, h]

theorem State.perform_illegalField {s : State} {w : Word} (h : decode w = .illegalField) :
    s.perform w = .next (s.raiseFault .illegalField w) := by
  rw [State.perform, h]

/-! ### Taking a fault (60_exceptions R272) -/

/-- FAULT is set, so that the interrupt output is CTRL.IE (10_state R37). -/
theorem State.irq_raiseFault (s : State) (c : FaultCause) (w : Word) : (s.raiseFault c w).irq = s.ie := by
  rw [State.irq, State.raiseFault_ie, State.raiseFault_fault, Bool.or_true, Bool.and_true]

/-- Settles O8: every fault is `State.raiseFault`, taken by the state that the event leaves, in which ABORTED has also
cleared abort_req; what it records and leaves is shown once for all four. -/
theorem engineFaultsAreRecordedInOrder : Obligations.EngineFaultsAreRecordedInOrder := by
  intro s rest hsched hb taken
  have recorded (cause : FaultCause) (w : Word) (b : Bool) (hab : s.abortReq = false → b = false) :
      taken cause (recordedWord cause w) ({ s with schedule := rest, abortReq := b }.raiseFault cause w) :=
    ⟨rfl, rfl, rfl, rfl, rfl, rfl, ⟨fun _ _ => rfl, fun _ _ => rfl, fun _ _ => rfl, fun _ _ => rfl⟩, fun _ => rfl,
      fun _ => rfl, rfl, rfl, rfl, rfl, hab, rfl, rfl, rfl, State.irq_raiseFault _ _ _⟩
  have hstep : step s = { s with schedule := rest }.engineStep := step_engine hsched
  have hperform (ha : s.abortReq = false) (hpc : isCommandAddress s.pc = true) :
      step s = { s with schedule := rest }.perform s.fetchedWord :=
    hstep.trans (State.engineStep_perform hb ha hpc)
  refine ⟨fun ha => ?aborted, fun ha hpc => ?fetchRange, fun ha hpc hop => ?illegalOpcode,
    fun ha hpc hd => ?illegalField⟩
  case aborted => exact ⟨_, hstep.trans (State.engineStep_abort hb ha), recorded .aborted 0#32 false fun _ => rfl⟩
  case fetchRange => exact ⟨_, hstep.trans (State.engineStep_fetchRange hb ha hpc), recorded .fetchRange 0#32 _ id⟩
  case illegalOpcode =>
    have hd : decode s.fetchedWord = .illegalOpcode := (unassignedOpcodesAreTheOnlyIllegalOnes _).2 hop
    exact ⟨_, (hperform ha hpc).trans (State.perform_illegalOpcode hd), recorded .illegalOpcode _ _ id⟩
  case illegalField =>
    exact ⟨_, (hperform ha hpc).trans (State.perform_illegalField hd), recorded .illegalField _ _ id⟩

end Sys2Proof.Machine

/-! Reset and the engine at rest (70_reset R300 to R302), and the end of every run: between two command boundaries the
pc moves 4 bytes on, and at the end of IMEM there is nothing left to fetch (40_control R121, 60_exceptions R271). -/

namespace Sys2Proof.Machine

/-! ### The idle engine (70_reset R302) -/

/-- Settles O7: both kinds of engine turn are `State.engineStep`, which an idle engine answers with its own state. -/
theorem idleEngineChangesNothing : Obligations.IdleEngineChangesNothing := by
  intro s rest hidle
  refine ⟨fun hempty => ?noEvent, fun hengine => ?engineEvent⟩
  case noEvent =>
    have hsame : { s with schedule := [] } = s := by rw [← hempty]
    rw [step_engine (.inl ⟨hempty, rfl⟩), hsame, State.engineStep_idle hidle]
  case engineEvent => exact (step_engine (.inr hengine)).trans (State.engineStep_idle hidle)

/-! ### The reset input (70_reset R300, R301) -/

theorem step_reset {s : State} {rest : List Event} (h : s.schedule = .reset :: rest) :
    step s = .next { s with schedule := rest }.hardReset := by
  rw [step, State.agentStep, h]

/-- STATUS reads 0 where none of its four bits is set (10_state R29). -/
theorem State.statusWord_eq_zero {s : State} (hb : s.busy = false) (hd : s.done = false) (hf : s.fault = false)
    (hh : s.herr = false) : s.statusWord = 0#32 := by
  rw [State.statusWord, hb, hd, hf, hh]
  decide

/-- The reset input clears IE, and with it the interrupt output (10_state R37). -/
theorem State.irq_hardReset (s : State) : s.hardReset.irq = false := Bool.false_and _

theorem State.statusWord_hardReset (s : State) : s.hardReset.statusWord = 0#32 :=
  State.statusWord_eq_zero rfl rfl rfl rfl

/-- The register files after the reset input are those of `State.reset`. -/
theorem State.sameRegisters_hardReset (s : State) : SameRegisters State.reset s.hardReset :=
  ⟨fun _ _ => rfl, fun _ _ => rfl, fun _ _ => rfl, fun _ _ => rfl⟩

/-- Settles O59: the step is `State.hardReset`, whatever the machine was doing. -/
theorem resetInputEndsTheRun : Obligations.ResetInputEndsTheRun := by
  intro s rest hreset
  exact ⟨_, step_reset hreset, rfl, State.sameRegisters_hardReset _, fun _ => rfl, fun _ => rfl, rfl, rfl, rfl,
    State.statusWord_hardReset _, rfl, rfl, rfl, rfl, State.irq_hardReset _⟩

/-! ### The end of a run (70_reset R310) -/

/-- A run has ended, by HALT or by a fault (10_state R29). -/
def State.Ended (s : State) : Prop := s.busy = false ∧ (s.done = true ∨ s.fault = true)

theorem State.ended_finishRun (s : State) : s.finishRun.Ended := ⟨rfl, .inl rfl⟩

theorem State.ended_raiseFault (s : State) (c : FaultCause) (w : Word) : (s.raiseFault c w).Ended := ⟨rfl, .inr rfl⟩

/-- t is the next command boundary of the run that s is in. -/
def NextBoundary (s t : State) : Prop :=
  isCommandAddress s.pc = true ∧ t.busy = true ∧ t.schedule = s.schedule ∧ t.pc = s.pc + 4#13

theorem CommandWrites.schedule_eq {i : Instr} {s u : State} (h : CommandWrites i s u) : u.schedule = s.schedule := by
  have hschedule : u.control.schedule = s.control.schedule := by rw [h.control_eq]
  exact hschedule

/-- A command ends the run, as HALT does, or brings it to the next boundary. -/
theorem exec_ended_or_nextBoundary {i : Instr} {s t : State} (h : exec i s = .next t) (hb : s.busy = true)
    (hpc : isCommandAddress s.pc = true) : t.Ended ∨ NextBoundary s t := by
  rcases exec_next h with ⟨_, rfl⟩ | ⟨u, hu, rfl⟩
  · exact .inl s.ended_finishRun
  · refine .inr ⟨hpc, hu.busy_eq.trans hb, hu.schedule_eq, ?_⟩
    rw [State.advance_pc, hu.pc_eq]

/-- A running engine's step ends the run, with a fault or by HALT, or brings it to the next boundary. -/
theorem engineStep_ended_or_nextBoundary {s t : State} (h : s.engineStep = .next t) (hb : s.busy = true) :
    t.Ended ∨ NextBoundary s t := by
  rcases State.engineStep_next h with ⟨hidle, _⟩ | ⟨_, _, rfl⟩ | ⟨_, _, _, rfl⟩ |
    ⟨_, _, hpc, ⟨_, rfl⟩ | ⟨_, rfl⟩ | ⟨i, _, hi⟩⟩
  · exact absurd (hb.symm.trans hidle) (by decide)
  · exact .inl (State.ended_raiseFault _ _ _)
  · exact .inl (State.ended_raiseFault _ _ _)
  · exact .inl (State.ended_raiseFault _ _ _)
  · exact .inl (State.ended_raiseFault _ _ _)
  · exact exec_ended_or_nextBoundary hi hb hpc

theorem NextBoundary.toNat_pc {s t : State} (h : NextBoundary s t) : t.pc.toNat = s.pc.toNat + 4 := by
  obtain ⟨haddr, _, _, hpc⟩ := h
  obtain ⟨hal, hlt⟩ := (isCommandAddress_iff _).1 haddr
  rw [hpc, toNat_pc_add_four (by omega)]

/-- One step of a legal machine whose run no event disturbs. -/
theorem step_ended_or_nextBoundary {s : State} (hs : s.Legal) (hb : s.busy = true) (hsched : s.schedule = []) :
    ∃ t, step s = .next t ∧ t.Legal ∧ (t.Ended ∨ NextBoundary s t) := by
  obtain ⟨t, ht⟩ := legalStatesAlwaysStep s hs
  have hengine : s.engineStep = .next t := by rwa [step, State.agentStep, hsched] at ht
  exact ⟨t, ht, stepKeepsTheMachineLegal s t hs ht, engineStep_ended_or_nextBoundary hengine hb⟩

/-- A run whose pc passes the end of IMEM within k boundaries has ended within k steps. -/
theorem run_ends_of_pc (k : Nat) {s : State} (hs : s.Legal) (hb : s.busy = true) (hsched : s.schedule = [])
    (hk : 4096 < s.pc.toNat + 4 * k) : ∃ j, j ≤ k ∧ ∃ t, runSteps j s = .next t ∧ t.Ended := by
  induction k generalizing s with
  | zero => exact absurd hs.pcRange (by omega)
  | succ k ih =>
    obtain ⟨t, ht, htLegal, hended | hnext⟩ := step_ended_or_nextBoundary hs hb hsched
    · exact ⟨1, by omega, t, runSteps_succ_of_next ht, hended⟩
    · have hpc := hnext.toNat_pc
      obtain ⟨_, htb, htsched, _⟩ := hnext
      obtain ⟨j, hj, u, hu, hended⟩ := ih htLegal htb (htsched.trans hsched) (by omega)
      exact ⟨j + 1, by omega, u, (runSteps_succ_of_next ht).trans hu, hended⟩

/-- Settles O9: from pc 0 there are 1024 commands to fetch, and then FETCH_RANGE. -/
theorem runEndsWithin1025Steps : Obligations.RunEndsWithin1025Steps := by
  intro s hs hb hsched
  exact run_ends_of_pc 1025 hs hb hsched (by omega)

end Sys2Proof.Machine
